-- ==== Sys2Proof/Word.lean ====
section
/-! DEFINITION. The bit-vector types of the NZ-624: bytes on the link, 16-bit words, time base readings. -/

namespace Sys2Proof

/-- One byte on the link (R1). -/
abbrev Byte := BitVec 8

/-- A 16-bit word of the link and of the table pages (R2, R36), and the width of every event counter (R17). -/
abbrev Word := BitVec 16

/-- A reading of the 32-bit millisecond time base (R22), and the width of a step's phase durations (R119). -/
abbrev Time := BitVec 32

end Sys2Proof
end

