-- ==== Sys2Proof/Syntax.lean ====
section
/-! DEFINITION. The commands of the NZ-624: one constructor per row of spec/opcode_table.json.

The table gives its rows no fields; the operands below are what the rule of the row takes from outside
(bytes on a line, a silence, a pin) and, where the spec leaves an order open, the order taken.
The management requests carry no operand: their arguments stand in the MREQ frame that waits in the
management request queue (notes/assumptions/3.md). -/

namespace Sys2Proof

/-- The two link ports (section 2.1): `u` faces the cab controller, `d` the drive link. -/
inductive Port where
  | u
  | d
deriving DecidableEq, Repr

/-- The four axes (R23). -/
inductive Axis where
  | hoist
  | drag
  | swing
  | walk
deriving DecidableEq, Repr

/-- The commands. -/
inductive Instr where
  /-- FRAME_START (R4): a byte arrives that ends no frame; in HUNTING a 0xC6 starts a frame. -/
  | frameStart (p : Port) (b : Byte)
  /-- BAD_LENGTH (R5): further bytes arrive, the last a LENGTH above 60. -/
  | badLength (p : Port) (bytes : List Byte)
  /-- FRAME_COMPLETE (R7): further bytes arrive, the last the second check byte. -/
  | frameComplete (p : Port) (bytes : List Byte)
  /-- TRUNCATED (R6): further bytes arrive, then a silence of `silenceNs` nanoseconds. -/
  | truncated (p : Port) (bytes : List Byte) (silenceNs : Nat)
  /-- ROUTE_U_FRAME (R10). -/
  | routeUFrame
  /-- ROUTE_D_FRAME (R11): `upFirst` says whether the offer upward is taken before the Machine Image's
  hand-over, `order` which evaluations are taken first; the rules leave both open. -/
  | routeDFrame (upFirst : Bool) (order : List Nat)
  /-- FEEDBACK_TIMER_EXPIRY (R32). -/
  | feedbackTimerExpiry (a : Axis)
  /-- TRANSMIT_START (R13). -/
  | transmitStart (p : Port)
  /-- TRANSMIT_COMPLETE (R13, R178). -/
  | transmitComplete (p : Port)
  /-- WATCHDOG_EXPIRY (R20). -/
  | watchdogExpiry
  /-- CYCLE_TIMER_EXPIRY (R63), with the order of the walk stage's evaluations. -/
  | cycleTimerExpiry (order : List Nat)
  /-- REFERENCE_OPERATION (R62, R123), with the order of the walk stage's evaluations. -/
  | referenceOperation (order : List Nat)
  /-- ROPE_STAGE (R69), with the order of its evaluations. -/
  | ropeStage (order : List Nat)
  /-- SWING_STAGE (R71), with the order of its evaluations. -/
  | swingStage (order : List Nat)
  /-- ASSEMBLY (R72). -/
  | assembly
  /-- SCAN_ADVANCE (R57). -/
  | scanAdvance
  /-- VALIDATION_COMPLETE (R49). -/
  | validationComplete
  /-- STATUS (R184). -/
  | status
  /-- READ_IMAGE (R185). -/
  | readImage
  /-- READ_PAGE (R186). -/
  | readPage
  /-- WRITE_PAGE (R43). -/
  | writePage
  /-- VALIDATE (R45). -/
  | validate
  /-- GO (R166). -/
  | go
  /-- HALT (R167). -/
  | halt
  /-- RESUME (R169). -/
  | resume
  /-- RESTART (R177). -/
  | restart
  /-- ACK_ALARM (R154). -/
  | ackAlarm
  /-- READ_ALARMS (R162). -/
  | readAlarms
  /-- READ_ALARM_STATUS (R163). -/
  | readAlarmStatus
  /-- FORCE (R159, R160). -/
  | force
  /-- READ_WALK (R141). -/
  | readWalk
  /-- CLEAR_COUNTERS (R187). -/
  | clearCounters
  /-- UNKNOWN_REQUEST (R181). -/
  | unknownRequest
  /-- RESTART_END (R178). -/
  | restartEnd
  /-- POWER_ON_RESET (R175). -/
  | powerOnReset
  /-- PIN_RESET (R192): RSTN has been low for `lowNs` nanoseconds. -/
  | pinReset (lowNs : Nat)
  /-- RESET_END (R175, R176), with the levels of STRAP5..STRAP0 at that moment. -/
  | resetEnd (straps : BitVec 6)
  /-- TIME_BASE_ADVANCE (R22, R174). -/
  | timeBaseAdvance
  /-- CLOCK_STOP (R192). -/
  | clockStop
  /-- CLOCK_RESTART (R192). -/
  | clockRestart
  /-- SUPPLY_LOSS (R191). -/
  | supplyLoss
deriving DecidableEq, Repr

end Sys2Proof
end

