-- ==== Sys2Proof/Decode.lean ====
section
/-! DEFINITION. The host's word decoder over the rows of spec/opcode_table.json that give bits. No row of this
hardware's table gives any bits, so no word spells a command (notes/assumptions/23.md). How the part itself
reads the bytes of a frame and the words of a request stands in Machine/Frames.lean and Machine/Requests.lean. -/

namespace Sys2Proof

/-- The command that a word spells by the table's bits: the table gives no row any bits. -/
def decodeTableWord (_nbits _w : Nat) : Option Instr := none

end Sys2Proof
end

