-- ==== Sys2Proof/Config.lean ====
section
/-! DEFINITION. What the part fixes (capacities, built-in defaults, thresholds of the link), and the one free value. -/

namespace Sys2Proof.Config

/-- What a page field reads as when its stored word lies outside the field's range: a number `0..n`, with `n`
the length of the range. A VALID page passed the range checks when it was validated (R48), so this is reached
only in a state whose VALID page holds a word outside its range (storage gone wrong, section 3.8), and the
spec states no reading there (notes/assumptions/15.md). FREE VALUE: no body. -/
opaque strayField (n word : Nat) : Fin (n + 1)

/-- SYNC, the first byte of every frame (R2). -/
def sync : Byte := 0xC6

/-- Largest LENGTH of a frame in words (R2, R5). -/
def maxLength : Nat := 60

/-- Longest character silence inside a frame, in ns (R6: 25 us). -/
def silenceLimitNs : Nat := 25000

/-- Shortest RSTN low time taken as a pin reset, in ns (R192: 2 us). -/
def resetLowNs : Nat := 2000

/-- Duration of one bit on the line, in ns (R1: 4 Mbit/s). -/
def bitNs : Nat := 250

/-- Duration of one character on the line, in ns (R1: 2.5 us). -/
def characterNs : Nat := 2500

/-- Capacity of the U-port receive queue (R9). -/
def rxCapacityU : Nat := 4
/-- Capacity of the D-port receive queue (R9). -/
def rxCapacityD : Nat := 8
/-- Capacity of the U-port transmit queue (R15, R16). -/
def txCapacityU : Nat := 8
/-- Capacity of the D-port transmit queue (R14). -/
def txCapacityD : Nat := 4
/-- Capacity of the management request queue (R179). -/
def requestCapacity : Nat := 4
/-- Capacity of the step queue (R119, R120). -/
def stepCapacity : Nat := 8
/-- Capacity of the step history (R121). -/
def historyCapacity : Nat := 8
/-- Words read by a validation or the scan at each advance of the time base (R46, R57). -/
def wordsPerAdvance : Nat := 64

/-- Built-in reference timeout, ms (R18, R51). -/
def builtinReferenceTimeout : Nat := 100
/-- Built-in feedback timeout, ms (R51). -/
def builtinFeedbackTimeout : Nat := 100
/-- Built-in cycle period, ms (R51, R63). -/
def builtinCyclePeriod : Nat := 20
/-- Built-in frame-error threshold (R8, R51). -/
def builtinFrameErrorThreshold : Nat := 4
/-- Built-in hoist overload tension, kN (R51). -/
def builtinOverloadTension : Nat := 10000
/-- Built-in rest rope speed, cm/s (R51). -/
def builtinRestRopeSpeed : Nat := 0
/-- Built-in rest swing speed, cdeg/s (R51). -/
def builtinRestSwingSpeed : Nat := 0
/-- Built-in qualification count of the IDs 2..23 (R51). -/
def builtinQualification : Nat := 3

end Sys2Proof.Config
end

