-- ==== Sys2Proof/Machine/State.lean ====
section
/-! DEFINITION. The state of the NZ-624 as plain data, block by block (spec/00_scope.md, 2.2), and its value right
after a power-on reset. -/

namespace Sys2Proof.Machine

/-! ### Names of the enumerated fields (R190) -/

/-- The run modes (R165). -/
inductive Mode where
  | loading
  | run
  | halt
deriving DecidableEq, Repr

/-- The kinds of reset, and the reset cause (R175). -/
inductive ResetKind where
  | powerOn
  | pin
  | commanded
deriving DecidableEq, Repr

/-- Whether the part works, or what keeps it from working (R175, R191). `off`: no supply. `resetting k`: a
power-on or pin reset is in effect. `restarting advanced`: a commanded restart is in effect, `advanced` saying
that the time base has advanced since it took effect, which ends it (R178). -/
inductive Phase where
  | off
  | resetting (k : ResetKind)
  | restarting (advanced : Bool)
  | working
deriving DecidableEq, Repr

/-- The level of an output pin; `released` when the part does not drive it; `data levels` while a transmit line carries
a frame, with the levels of the frame's bits in the order sent, `true` for high (R1, notes/assumptions/8.md). -/
inductive PinLevel where
  | low
  | high
  | released
  | data (levels : List Bool)
deriving DecidableEq, Repr

/-- The states of a table page (R42). -/
inductive PageState where
  | empty
  | written
  | validating
  | valid
  | failed
deriving DecidableEq, Repr

/-- The states of an axis (R24). -/
inductive AxisState where
  | unmapped
  | noSample
  | fresh
  | stale
deriving DecidableEq, Repr

/-- The bucket zone (R70). -/
inductive Zone where
  | ground
  | dig
  | carry
  | clear
  | boomtip
  | unknown
deriving DecidableEq, Repr

/-- An alarm's severity (R38). -/
inductive Severity where
  | info
  | warn
  | derate
  | stop
deriving DecidableEq, Repr

/-- The walk request of an operation, and the walk-field edge memory (R62, R67). -/
inductive WalkRequest where
  | none
  | stepFwd
  | stepRev
  | cancel
deriving DecidableEq, Repr

/-- The Walk Sequencer's state (R119). -/
inductive SeqState where
  | idle
  | prep
  | step
  | setdown
deriving DecidableEq, Repr

/-- The cam phases (R122). -/
inductive CamPhase where
  | p1
  | p2
  | p3
  | p4
  | rest
deriving DecidableEq, Repr

/-- The direction of a step (R119). -/
inductive Direction where
  | forward
  | reverse
deriving DecidableEq, Repr

/-- Why a step is in SETDOWN (R119). -/
inductive SetdownCause where
  | cancelled
  | halted
deriving DecidableEq, Repr

/-- How a step ended (R121). -/
inductive StepResult where
  | done
  | cancelled
  | halted
  | stalled
  | faulted
  | steerMoved
deriving DecidableEq, Repr

/-- The status codes of replies (R190). -/
inductive StatusCode where
  | ok
  | unknownRequest
  | badArgument
  | wrongMode
  | pageInUse
  | notValid
  | blocked
  | checkFailed
  | structureFailed
deriving DecidableEq, Repr

/-- The seven table pages (R36). -/
inductive PageId where
  | config
  | alarm
  | walk
  | profile (n : Fin 4)
deriving DecidableEq, Repr

/-- An alarm ID (R143). -/
abbrev AlarmId := Fin 24

/-! ### Frames and the Link Ports (chapter 1) -/

/-- A frame after its SYNC (R2); LENGTH is the number of payload words. -/
structure Frame where
  kind    : Byte
  station : Byte
  words   : List Word
  check   : Word
deriving DecidableEq, Repr

/-- Where a frame in a transmit queue came from (R14, R15, R16). `restartReply` marks the reply whose sending
makes the commanded restart take effect (R178). -/
inductive Origin where
  | forwarded
  | reference
  | alarm
  | reply
  | restartReply
deriving DecidableEq, Repr

/-- A frame waiting in a transmit queue or being sent. -/
structure TxFrame where
  frame  : Frame
  origin : Origin
deriving DecidableEq, Repr

/-- The frame on the line; `cut` when CLK stopped while it was being sent, so that the partner sees it
TRUNCATED (R192). -/
structure Sending where
  item : TxFrame
  cut  : Bool
deriving DecidableEq, Repr

/-- The receiver (R4, R5): HUNTING, or IN_FRAME with the bytes taken since SYNC. -/
inductive Rx where
  | hunting
  | inFrame (got : List Byte)
deriving DecidableEq, Repr

/-- The outcome of one received frame (section 1.4). -/
inductive RxOutcome where
  | good (f : Frame)
  | badCheck
  | badLength
  | truncated
  | misformed
deriving DecidableEq, Repr

/-- The counters both ports keep (R17). -/
structure Counters where
  good        : Word
  badCheck    : Word
  badLength   : Word
  truncated   : Word
  misdirected : Word
  overrun     : Word
  txDrops     : Word
deriving DecidableEq, Repr

/-- One link port. -/
structure LinkPort where
  rx        : Rx
  rxQueue   : List Frame
  tx        : Option Sending
  txQueue   : List TxFrame
  counters  : Counters
  consecBad : Byte
deriving DecidableEq, Repr

/-- The reference watchdog (R18). -/
inductive Watchdog where
  | running (start : Time)
  | expired
deriving DecidableEq, Repr

/-- The Link Ports and the Frame Router. `waitingRef` is a valid REF handed over while the Governor is busy
(R65); `held` are the outcomes reached while a commanded restart is in effect, in order (R21). -/
structure Links where
  u          : LinkPort
  d          : LinkPort
  superseded : Word
  watchdog   : Watchdog
  waitingRef : Option Frame
  held       : List (Port × RxOutcome)
deriving DecidableEq, Repr

/-! ### The Machine Image (chapter 2) -/

/-- An axis record and its feedback timer (R23, R25). `timer` is the timer's start, none while stopped; `overtaken` the
moment at which a good sample was taken before an expiry that was due, none when the last one was not (R33, R155,
notes/assumptions/30.md). -/
structure AxisRecord where
  state      : AxisState
  station    : Nat
  position   : Nat
  speed      : Int
  tension    : Nat
  fault      : Bool
  brakeSet   : Bool
  sampleTime : Option Time
  badSamples : Word
  timer      : Option Time
  overtaken  : Option Time
deriving DecidableEq, Repr

/-- The Machine Image: the time base and the four axis records. -/
structure Image where
  timeBase : Time
  hoist    : AxisRecord
  drag     : AxisRecord
  swing    : AxisRecord
  walk     : AxisRecord
deriving DecidableEq, Repr

/-! ### The Table Store (chapter 3) -/

/-- The contents of a page: (offset, word) pairs, offsets rising, no word 0; an unlisted offset reads 0, as an
EMPTY page does (R42). -/
abbrev Memory := List (Nat × Word)

/-- A page: its state and its contents (R42). -/
structure Page where
  state : PageState
  words : Memory
deriving DecidableEq, Repr

/-- A run of the check word computation over a page: the page in hand, the next word to read, the register
(R46, R57). -/
structure CheckRun where
  page : PageId
  next : Nat
  reg  : Word
deriving DecidableEq, Repr

/-- The Table Store. `scan` is none while the background scan is idle; `scanDue` says that the time base has
advanced and the scan has not yet taken that advance. -/
structure Store where
  config         : Page
  alarm          : Page
  walk           : Page
  profiles       : Vector Page 4
  active         : Fin 4
  pendingProfile : Option (Fin 4)
  scan           : Option CheckRun
  scanDue        : Bool
deriving DecidableEq, Repr

/-! ### The Reference Governor (chapter 4) -/

/-- The stage of an operation that runs next (R69, R71, R72). -/
inductive OpStage where
  | rope
  | swing
  | assembly
deriving DecidableEq, Repr

/-- The operation in progress: its inputs (R62, R64), the mode and derate read at its start (R66), the walk
stage's answer (R68) and what its later stages hand on (R98, R117). -/
structure Op where
  stage          : OpStage
  generated      : Bool
  hoistCommand   : Int
  dragCommand    : Int
  swingCommand   : Int
  profileRequest : Word
  brakeRequest   : Bool
  mode           : Mode
  derate         : Nat
  session        : Bool
  walkRef        : Int
  hoistRef       : Int
  dragRef        : Int
  hoistLimited   : Bool
  dragLimited    : Bool
  swingRef       : Int
  swingBrake     : Bool
  swingLimited   : Bool
deriving DecidableEq, Repr

/-- The Reference Governor. The slew baselines are also the last produced references (R75); `cycleTimer` is
the timer's start, none while STOPPED (R63); `genWaiting` a generated operation waiting for the Governor. -/
structure Governor where
  baseHoist   : Int
  baseDrag    : Int
  baseSwing   : Int
  baseWalk    : Int
  edge        : WalkRequest
  zone        : Zone
  insideGated : Bool
  flags       : Word
  cycleTimer  : Option Time
  op          : Option Op
  genWaiting  : Bool
deriving DecidableEq, Repr

/-! ### The Walk Sequencer (chapter 7) -/

/-- A step record (R119). -/
structure StepRecord where
  direction   : Direction
  steer       : Nat
  requestTime : Time
deriving DecidableEq, Repr

/-- The current step: its record and its run fields (R119). -/
structure CurrentStep where
  record     : StepRecord
  start      : Time
  phase      : Option CamPhase
  phaseStart : Option Time
  p1         : Time
  p2         : Time
  p3         : Time
  p4         : Time
  cause      : Option SetdownCause
deriving DecidableEq, Repr

/-- A history record (R121). -/
structure HistoryRecord where
  direction : Direction
  steer     : Nat
  result    : StepResult
  start     : Time
  p1        : Time
  p2        : Time
  p3        : Time
  p4        : Time
deriving DecidableEq, Repr

/-- The Walk Sequencer (R119). -/
structure WalkSeq where
  state     : SeqState
  current   : Option CurrentStep
  queue     : List StepRecord
  lockAngle : Option Nat
  queueFull : Word
  history   : List HistoryRecord
deriving DecidableEq, Repr

/-! ### The Alarm Unit (chapters 8 and 9) -/

/-- A per-ID status record (R146). `condition` is true while present. -/
structure AlarmStatus where
  condition : Bool
  count     : Byte
  rearm     : Byte
  armed     : Bool
  forced    : Bool
  report    : Bool
  occurred  : Byte
  lastRaise : Time
deriving DecidableEq, Repr

/-- An entry of the active alarm list (R152); its condition is its ID's (R146). -/
structure Entry where
  id       : AlarmId
  latched  : Bool
  severity : Severity
  horn     : BitVec 4
  factor   : Nat
  raised   : Time
  acked    : Bool
deriving DecidableEq, Repr

/-- The Alarm Unit. `horn` is the sounding pattern, none while silent (R174). -/
structure AlarmUnit where
  status     : Vector AlarmStatus 24
  list       : List Entry
  mode       : Mode
  horn       : Option (BitVec 4)
  hornOrigin : Time
  resetCause : ResetKind
deriving DecidableEq, Repr

/-! ### The Management Unit (chapter 10) -/

/-- The Management Unit (R180): FREE, or BUSY with a validation, with a waiting reply (its payload words, and
whether it answers an accepted RESTART), or with an accepted RESTART whose reply has been placed. -/
inductive MgmtUnit where
  | free
  | validating (v : CheckRun)
  | replying (words : List Word) (restart : Bool)
  | restartPlaced
deriving DecidableEq, Repr

/-- The Management Unit and its request queue (R179). -/
structure Mgmt where
  queue    : List Frame
  unit     : MgmtUnit
  discards : Word
deriving DecidableEq, Repr

/-- The output pins (R172, R191). -/
structure Pins where
  horn  : PinLevel
  alm   : PinLevel
  stopn : PinLevel
  utx   : PinLevel
  dtx   : PinLevel
deriving DecidableEq, Repr

/-- The whole part. `pending` is the model's queue of waiting commands; `clk` says that CLK runs (R192);
`station` is the part's own station number (R176). -/
structure State where
  pending : List Instr
  phase   : Phase
  clk     : Bool
  station : Nat
  pins    : Pins
  links   : Links
  image   : Image
  store   : Store
  gov     : Governor
  walk    : WalkSeq
  alarm   : AlarmUnit
  mgmt    : Mgmt
deriving DecidableEq, Repr

/-- Why a step could stop with a fault: the spec names no event that stops the part (INVENTORY.md, Faults), so
there is no constructor, and no step of this model faults. -/
inductive Fault where
deriving DecidableEq, Repr

/-- Why a command could be refused. -/
inductive Refusal where
  /-- A command that has no meaning yet, raised by exec's arm for it alone. Safe: the model stops where the
  part goes on. -/
  | notModelled (mnemonic : String)
deriving DecidableEq, Repr

/-! ### Reset values -/

/-- Counters at 0 (R17). -/
def Counters.zero : Counters := ⟨0, 0, 0, 0, 0, 0, 0⟩

/-- A port after a power-on or pin reset (R21). -/
def LinkPort.fresh : LinkPort := ⟨.hunting, [], none, [], Counters.zero, 0⟩

/-- An axis in UNMAPPED with its bad-sample counter given (R34, R35). -/
def AxisRecord.unmapped (bad : Word) : AxisRecord :=
  ⟨.unmapped, 0, 0, 0, 0, false, false, none, bad, none, none⟩

/-- A page after a power-on or pin reset: EMPTY, every word 0 (R60). -/
def Page.blank : Page := ⟨.empty, []⟩

/-- A status record after any reset (R164). -/
def AlarmStatus.fresh : AlarmStatus := ⟨false, 0, 0, true, false, false, 0, 0⟩

/-- The Reference Governor after any reset (R77). -/
def Governor.fresh : Governor :=
  { baseHoist := 0, baseDrag := 0, baseSwing := 0, baseWalk := 0, edge := .none, zone := .unknown
    insideGated := false, flags := 0, cycleTimer := none, op := none, genWaiting := false }

/-- The Alarm Unit after any reset, with the reset cause given (R164, R165, R174). -/
def AlarmUnit.fresh (cause : ResetKind) : AlarmUnit :=
  { status := Vector.replicate 24 AlarmStatus.fresh, list := [], mode := .loading
    horn := none, hornOrigin := 0, resetCause := cause }

/-- The lines for LOADING with an empty list, transmitters idle (R191). -/
def Pins.rest : Pins := ⟨.low, .low, .low, .high, .high⟩

/-- The part at the end of a power-on or pin reset of kind `cause` with the given station number: the values
of R21, R34, R60, R77, R142, R164, R165, R174, R175, R176, R179 and R191. -/
def State.afterReset (cause : ResetKind) (station : Nat) : State :=
  { pending := []
    phase := .working
    clk := true
    station := station
    pins := Pins.rest
    links := ⟨LinkPort.fresh, LinkPort.fresh, 0, .running 0, none, []⟩
    image := ⟨0, .unmapped 0, .unmapped 0, .unmapped 0, .unmapped 0⟩
    store :=
      { config := Page.blank, alarm := Page.blank, walk := Page.blank
        profiles := Vector.replicate 4 Page.blank, active := 0, pendingProfile := none
        scan := none, scanDue := false }
    gov := Governor.fresh
    walk := ⟨.idle, none, [], none, 0, []⟩
    alarm := AlarmUnit.fresh cause
    mgmt := ⟨[], .free, 0⟩ }

/-- The machine right after a power-on reset with every strap open: station 62 (R176, R192;
DESIGN CHOICE, notes/assumptions/9.md). -/
def State.reset : State := State.afterReset .powerOn 62

end Sys2Proof.Machine
end

