-- ==== Sys2Proof/Machine/Frames.lean ====
section
/-! DEFINITION. Saturating counters, readings of the time base, the check word (R3), the layout of a frame (R2, R188)
and what a receiver makes of a run of bytes (R4 to R7). -/

namespace Sys2Proof.Machine

/-! ### Counters and times -/

/-- One more, saturating at the greatest value of the width (R8, R17, R23, R119, R146, R179). -/
def bump {n : Nat} (c : BitVec n) : BitVec n := if c = BitVec.allOnes n then c else c + 1

/-- The time since the reading `start`: the time base minus it, modulo 2^32 (R22). -/
def since (now start : Time) : Nat := (now - start).toNat

/-- The high byte of a word. -/
def hiByte (w : Word) : Byte := (w >>> 8).setWidth 8

/-- The low byte of a word. -/
def loByte (w : Word) : Byte := w.setWidth 8

/-- A word of two bytes, high byte first. -/
def ofBytes (hi lo : Byte) : Word := hi ++ lo

/-- The two words of a 32-bit value, high word first (R188). -/
def wordsOfTime (t : Time) : List Word := [(t >>> 16).setWidth 16, t.setWidth 16]

/-- A 16-bit word of a number (two's complement for a signed field, R188). -/
def wordOf (n : Int) : Word := BitVec.ofInt 16 n

/-- A word of a number that is not signed. -/
def wordOfNat (n : Nat) : Word := BitVec.ofNat 16 n

/-- What is sent where a field can be none (R188). -/
def noneWord : Word := 0xFFFF

/-! ### The check word (R3) -/

/-- Steps 3 to 5 of R3 for one data bit. -/
def crcBit (reg : Word) (bit : Bool) : Word :=
  if reg.msb ^^ bit then (reg <<< 1) ^^^ 0x8005 else reg <<< 1

/-- One covered byte, most significant bit first. -/
def crcByte (reg : Word) (b : Byte) : Word :=
  [b.getLsbD 7, b.getLsbD 6, b.getLsbD 5, b.getLsbD 4, b.getLsbD 3, b.getLsbD 2, b.getLsbD 1, b.getLsbD 0].foldl
    crcBit reg

/-- One word taken as two bytes, high byte first (R46). -/
def crcWord (reg w : Word) : Word := crcByte (crcByte reg (hiByte w)) (loByte w)

/-- The register before the first covered byte. -/
def crcInit : Word := 0xFFFF

/-- The check word of a run of covered bytes. -/
def checkWord (bytes : List Byte) : Word := bytes.foldl crcByte crcInit

/-! ### Frames (R2) -/

/-- The bytes of a run of words, each high byte first. -/
def bytesOfWords (ws : List Word) : List Byte := ws.flatMap fun w => [hiByte w, loByte w]

/-- The words of a run of bytes, high byte first. -/
def wordsOfBytes : List Byte → List Word
  | hi :: lo :: rest => ofBytes hi lo :: wordsOfBytes rest
  | _ => []

/-- The bytes the check word covers: KIND, STATION, LENGTH and the payload (R3). -/
def coveredBytes (kind station : Byte) (words : List Word) : List Byte :=
  kind :: station :: BitVec.ofNat 8 words.length :: bytesOfWords words

/-- A frame the part composes, with its check word (R3). -/
def composeFrame (kind station : Byte) (words : List Word) : Frame :=
  ⟨kind, station, words, checkWord (coveredBytes kind station words)⟩

/-- Whether a frame's check word is the one R3 gives. -/
def Frame.checkOk (f : Frame) : Bool := f.check == checkWord (coveredBytes f.kind f.station f.words)

/-- The bytes of a frame on the line, SYNC first (R2, R188). -/
def Frame.bytes (f : Frame) : List Byte :=
  Config.sync :: (coveredBytes f.kind f.station f.words ++ [hiByte f.check, loByte f.check])

/-- The duration of a frame on the line, in ns (R2). -/
def Frame.durationNs (f : Frame) : Nat := Config.characterNs * f.bytes.length

/-- The frame kinds (R2). -/
def kindRef : Byte := 0x31
/-- FBK. -/
def kindFbk : Byte := 0x52
/-- ALM. -/
def kindAlm : Byte := 0x74
/-- MREQ. -/
def kindMreq : Byte := 0x95
/-- MREP. -/
def kindMrep : Byte := 0xB6

/-! ### Characters on the line (R1) -/

/-- The level of the line at rest and in a stop bit: high (R1, R191). -/
def restLevel : Bool := true

/-- The character that carries a byte, as the levels of its 10 bits in the order sent: a start bit, which leaves the rest
level, the 8 data bits, least significant first, and a stop bit (R1). A start bit is low and a data bit of 1 is high
(notes/assumptions/32.md). -/
def characterOf (b : Byte) : List Bool :=
  (!restLevel) :: ([0, 1, 2, 3, 4, 5, 6, 7].map b.getLsbD ++ [restLevel])

/-- The byte a receiver takes from a character it frames: its 8 data bits, the stop bit untested (R1). -/
def byteOfCharacter (levels : List Bool) : Byte :=
  BitVec.ofNat 8 (((levels.drop 1).take 8).foldr (fun bit n => bit.toNat + 2 * n) 0)

/-- The levels of a frame on the line: its characters back to back, with no idle time between them (R1). -/
def Frame.levels (f : Frame) : List Bool := f.bytes.flatMap characterOf

/-! ### Reception (R4 to R7) -/

/-- The LENGTH byte among the bytes after SYNC, once it has arrived (R5: the third byte after SYNC). -/
def lengthByte (got : List Byte) : Option Nat := (got[2]?).map (·.toNat)

/-- The bytes after SYNC end at a LENGTH byte above 60 (R5). -/
def endsBadLength (got : List Byte) : Bool :=
  got.length == 3 && (lengthByte got).any (Config.maxLength < ·)

/-- The bytes after SYNC end at the second check byte (R5). -/
def endsComplete (got : List Byte) : Bool :=
  (lengthByte got).any fun n => n ≤ Config.maxLength && got.length == 5 + 2 * n

/-- The bytes after SYNC have reached no outcome: the frame is still in progress (R5). -/
def stillOpen (got : List Byte) : Bool :=
  (lengthByte got).all fun n => n ≤ Config.maxLength && got.length < 5 + 2 * n

/-- The frame that complete bytes after SYNC spell (R2). -/
def frameOfBytes (got : List Byte) : Frame :=
  let body := got.drop 3
  let n := (lengthByte got).getD 0
  { kind := got.getD 0 0
    station := got.getD 1 0
    words := wordsOfBytes (body.take (2 * n))
    check := ofBytes (body.getD (2 * n) 0) (body.getD (2 * n + 1) 0) }

/-- The outcome of a complete frame on a port (R7). -/
def outcomeOf (p : Port) (f : Frame) : RxOutcome :=
  if !f.checkOk then .badCheck
  else if p = .u ∧ f.kind = kindRef ∧ f.words.length ≠ 6 then .misformed
  else .good f

end Sys2Proof.Machine
end

