-- ==== Sys2Proof/Machine/Ops.lean ====
section
/-! DEFINITION. The named operations over the state: ports, axes, pages and their words, alarm status records, and
the conditions under which the part works at all. -/

namespace Sys2Proof.Machine

/-! ### When the part works -/

/-- The part takes frames, runs operations and makes evaluations: no reset is in effect (R175), the supply
stands (R191) and CLK runs (R192). -/
def State.working (s : State) : Bool := decide (s.phase = .working) && s.clk

/-- The effect of a command that needs the part at work; otherwise the command's event does not take place
(R175, R191, R192; notes/assumptions/1.md). -/
def State.atWork (s : State) (f : State → State) : State := if s.working then f s else s

/-- The current time base (R22). -/
def State.now (s : State) : Time := s.image.timeBase

/-- The mode (R165). -/
def State.mode (s : State) : Mode := s.alarm.mode

/-- A timer started at `start` with the given period is due (R22). -/
def State.due (s : State) (start : Time) (period : Nat) : Bool := period ≤ since s.now start

/-! ### Ports -/

/-- A port of the Link Ports. -/
def Links.port (l : Links) : Port → LinkPort
  | .u => l.u
  | .d => l.d

/-- Replaces a port of the Link Ports. -/
def Links.setPort (l : Links) (p : Port) (x : LinkPort) : Links :=
  match p with
  | .u => { l with u := x }
  | .d => { l with d := x }

/-- Replaces the Link Ports. -/
def State.setLinks (s : State) (l : Links) : State := { s with links := l }

/-- A port. -/
def State.port (s : State) (p : Port) : LinkPort := s.links.port p

/-- Replaces a port. -/
def State.setPort (s : State) (p : Port) (x : LinkPort) : State := s.setLinks (s.links.setPort p x)

/-- Changes the counters of a port. -/
def State.count (s : State) (p : Port) (f : Counters → Counters) : State :=
  s.setPort p { s.port p with counters := f (s.port p).counters }

/-- Capacity of a port's receive queue (R9). -/
def rxCapacity : Port → Nat
  | .u => Config.rxCapacityU
  | .d => Config.rxCapacityD

/-- Capacity of a port's transmit queue (R14, R15). -/
def txCapacity : Port → Nat
  | .u => Config.txCapacityU
  | .d => Config.txCapacityD

/-- Places a frame at the tail of a port's transmit queue if there is room; otherwise the frame is lost and
counted as a transmit drop (R14 for an MREQ, R16 for a frame forwarded up). -/
def State.offerForward (s : State) (p : Port) (f : Frame) : State :=
  if (s.port p).txQueue.length < txCapacity p then
    s.setPort p { s.port p with txQueue := (s.port p).txQueue ++ [⟨f, .forwarded⟩] }
  else s.count p fun c => { c with txDrops := bump c.txDrops }

/-! ### The Machine Image -/

/-- An axis record. -/
def Image.axis (m : Image) : Axis → AxisRecord
  | .hoist => m.hoist
  | .drag => m.drag
  | .swing => m.swing
  | .walk => m.walk

/-- Replaces an axis record. -/
def Image.setAxis (m : Image) (a : Axis) (r : AxisRecord) : Image :=
  match a with
  | .hoist => { m with hoist := r }
  | .drag => { m with drag := r }
  | .swing => { m with swing := r }
  | .walk => { m with walk := r }

/-- Replaces the Machine Image. -/
def State.setImage (s : State) (m : Image) : State := { s with image := m }

/-- An axis record. -/
def State.axis (s : State) (a : Axis) : AxisRecord := s.image.axis a

/-- Replaces an axis record. -/
def State.setAxis (s : State) (a : Axis) (r : AxisRecord) : State := s.setImage (s.image.setAxis a r)

/-- Only a FRESH record counts as known (R24). -/
def AxisRecord.isFresh (r : AxisRecord) : Bool := decide (r.state = .fresh)

/-! ### Words of a page -/

/-- The word at an offset; an unlisted offset reads 0 (R42, R186). -/
def Memory.read : Memory → Nat → Word
  | [], _ => 0
  | (k, v) :: rest, a => if k = a then v else Memory.read rest a

/-- Stores a word at an offset, keeping the offsets rising and no word 0 listed. -/
def Memory.write : Memory → Nat → Word → Memory
  | [], a, v => if v = 0 then [] else [(a, v)]
  | (k, w) :: rest, a, v =>
    if a < k then (if v = 0 then (k, w) :: rest else (a, v) :: (k, w) :: rest)
    else if a = k then (if v = 0 then rest else (a, v) :: rest)
    else (k, w) :: Memory.write rest a v

/-- Stores words in order from an offset upward (R44). -/
def Memory.writeFrom (m : Memory) (off : Nat) : List Word → Memory
  | [] => m
  | w :: ws => Memory.writeFrom (Memory.write m off w) (off + 1) ws

/-- The words from an offset upward, `n` of them (R186). -/
def Memory.slice (m : Memory) (off n : Nat) : List Word := (List.range n).map fun k => Memory.read m (off + k)

/-- The canonical form: offsets strictly rising, no listed word 0. -/
abbrev Memory.wf (m : Memory) : Prop := (m.map Prod.fst).Pairwise (· < ·) ∧ ∀ c ∈ m, c.2 ≠ 0

/-! ### Pages -/

/-- A page of the Table Store. -/
def Store.page (t : Store) : PageId → Page
  | .config => t.config
  | .alarm => t.alarm
  | .walk => t.walk
  | .profile n => t.profiles[n]

/-- Replaces a page of the Table Store. -/
def Store.setPage (t : Store) (id : PageId) (p : Page) : Store :=
  match id with
  | .config => { t with config := p }
  | .alarm => { t with alarm := p }
  | .walk => { t with walk := p }
  | .profile n => { t with profiles := t.profiles.set n p }

/-- Replaces the Table Store. -/
def State.setStore (s : State) (t : Store) : State := { s with store := t }

/-- A page. -/
def State.page (s : State) (id : PageId) : Page := s.store.page id

/-- Whether a page is VALID to its readers (R42). -/
def State.pageValid (s : State) (id : PageId) : Bool := decide ((s.page id).state = .valid)

/-- The active profile's page (R52). -/
def State.activePage (s : State) : PageId := .profile s.store.active

/-- The size of a page in words (R36). -/
def PageId.size : PageId → Nat
  | .config => 32
  | .alarm => 128
  | .walk => 64
  | .profile _ => 1408

/-- The page a page ID names, if any (R36). -/
def pageOfId : Nat → Option PageId
  | 0 => some .config
  | 1 => some .alarm
  | 2 => some .walk
  | 4 => some (.profile 0)
  | 5 => some (.profile 1)
  | 6 => some (.profile 2)
  | 7 => some (.profile 3)
  | _ => none

/-- The register of R46 after reading `n` words of a page from word `start`, the last word of the page (its
check word) being read but not covered. -/
def crcOver (m : Memory) (size start n : Nat) (reg : Word) : Word :=
  ((List.range n).filter fun k => start + k + 1 < size).foldl (fun r k => crcWord r (Memory.read m (start + k))) reg

/-- The check word test of R47 on a register. -/
def checkWordPasses (m : Memory) (id : PageId) (reg : Word) : Bool := reg == Memory.read m (id.size - 1)

/-! ### The other blocks -/

/-- Replaces the Reference Governor. -/
def State.setGov (s : State) (g : Governor) : State := { s with gov := g }

/-- Replaces the Walk Sequencer. -/
def State.setWalk (s : State) (w : WalkSeq) : State := { s with walk := w }

/-- Replaces the Alarm Unit. -/
def State.setAlarm (s : State) (a : AlarmUnit) : State := { s with alarm := a }

/-- Replaces the Management Unit. -/
def State.setMgmt (s : State) (m : Mgmt) : State := { s with mgmt := m }

/-- Replaces the output pins. -/
def State.setPins (s : State) (p : Pins) : State := { s with pins := p }

/-- An ID's status record (R146). -/
def State.status (s : State) (i : AlarmId) : AlarmStatus := s.alarm.status[i]

/-- Replaces an ID's status record. -/
def State.setStatus (s : State) (i : AlarmId) (x : AlarmStatus) : State :=
  s.setAlarm { s.alarm with status := s.alarm.status.set i x }

/-- An ID's entry in the active alarm list (R152). -/
def State.entry? (s : State) (i : AlarmId) : Option Entry := s.alarm.list.find? fun e => decide (e.id = i)

/-- The walk session is active while the state is not IDLE or the step queue is not empty (R119). -/
def WalkSeq.session (w : WalkSeq) : Bool := !(decide (w.state = .idle) && w.queue.isEmpty)

end Sys2Proof.Machine
end

