-- ==== Sys2Proof/Machine/Operands.lean ====
section
/-! DEFINITION. The fields of the table pages (R37 to R41, R188, R189): their places and ranges, read by the blocks
while a page is VALID, replaced by the built-in values of R51 while it is not, and checked by validation (R48). -/

namespace Sys2Proof.Machine

/-- How a field lies in its word or words (R188, R189). -/
inductive FieldPlace where
  | word
  | high
  | low
  | long
deriving DecidableEq, Repr

/-- A page field: its first word, its place there, its range. -/
structure Field where
  off   : Nat
  place : FieldPlace
  lo    : Nat
  hi    : Nat
deriving DecidableEq, Repr

/-- The number stored in a field; two words are read together as one 32-bit number (R48). -/
def Field.raw (f : Field) (m : Memory) : Nat :=
  match f.place with
  | .word => (Memory.read m f.off).toNat
  | .high => (hiByte (Memory.read m f.off)).toNat
  | .low => (loByte (Memory.read m f.off)).toNat
  | .long => (Memory.read m f.off).toNat * 65536 + (Memory.read m (f.off + 1)).toNat

/-- The range check of R48. -/
def Field.ok (f : Field) (m : Memory) : Bool := f.lo ≤ f.raw m && f.raw m ≤ f.hi

/-- The value a block reads. A number outside the range, which a validated page does not hold, reads as a free
value of the range (notes/assumptions/15.md). -/
def Field.read (f : Field) (m : Memory) : Nat :=
  if f.ok m then f.raw m else f.lo + Config.strayField (f.hi - f.lo) (f.raw m)

/-! ### CONFIG (R37) -/

/-- The station of an axis. -/
def cfgStation : Axis → Field
  | .hoist => ⟨0, .word, 1, 62⟩
  | .drag => ⟨1, .word, 1, 62⟩
  | .swing => ⟨2, .word, 1, 62⟩
  | .walk => ⟨3, .word, 1, 62⟩
/-- Reference timeout, ms. -/
def cfgReferenceTimeout : Field := ⟨4, .word, 20, 2000⟩
/-- Feedback timeout, ms. -/
def cfgFeedbackTimeout : Field := ⟨5, .word, 20, 2000⟩
/-- Cycle period, ms. -/
def cfgCyclePeriod : Field := ⟨6, .word, 5, 200⟩
/-- Frame-error threshold, frames. -/
def cfgFrameErrorThreshold : Field := ⟨7, .word, 1, 255⟩
/-- Hoist overload tension, kN. -/
def cfgOverloadTension : Field := ⟨8, .word, 100, 10000⟩
/-- Rest rope speed, cm/s. -/
def cfgRestRopeSpeed : Field := ⟨9, .word, 0, 50⟩
/-- Rest swing speed, cdeg/s. -/
def cfgRestSwingSpeed : Field := ⟨10, .word, 0, 300⟩

/-- A CONFIG value in force: the page's while CONFIG is VALID, the built-in one while it is not (R50, R51). -/
def State.cfg (s : State) (f : Field) (builtin : Nat) : Nat :=
  if s.pageValid .config then f.read (s.page .config).words else builtin

/-- The watchdog period in force (R18). -/
def State.referenceTimeout (s : State) : Nat := s.cfg cfgReferenceTimeout Config.builtinReferenceTimeout
/-- The feedback timers' period in force (R25, R51). -/
def State.feedbackTimeout (s : State) : Nat := s.cfg cfgFeedbackTimeout Config.builtinFeedbackTimeout
/-- The cycle timer's period in force (R63). -/
def State.cyclePeriod (s : State) : Nat := s.cfg cfgCyclePeriod Config.builtinCyclePeriod
/-- The frame-error threshold in force (R8). -/
def State.frameErrorThreshold (s : State) : Nat := s.cfg cfgFrameErrorThreshold Config.builtinFrameErrorThreshold
/-- The overload tension in force (R87, R51). -/
def State.overloadTension (s : State) : Nat := s.cfg cfgOverloadTension Config.builtinOverloadTension
/-- The rest rope speed in force (R56, R51). -/
def State.restRopeSpeed (s : State) : Nat := s.cfg cfgRestRopeSpeed Config.builtinRestRopeSpeed
/-- The rest swing speed in force (R56, R127, R51). -/
def State.restSwingSpeed (s : State) : Nat := s.cfg cfgRestSwingSpeed Config.builtinRestSwingSpeed

/-! ### ALARM (R38, R144, R145) -/

/-- The enable field of an ID's record. -/
def almEnable (i : AlarmId) : Field := ⟨5 * i, .high, 0, 1⟩
/-- The mask field. -/
def almMask (i : AlarmId) : Field := ⟨5 * i, .low, 0, 1⟩
/-- The latch type field. -/
def almLatch (i : AlarmId) : Field := ⟨5 * i + 1, .high, 0, 1⟩
/-- The severity field. -/
def almSeverity (i : AlarmId) : Field := ⟨5 * i + 1, .low, 0, 3⟩
/-- The qualification count field. -/
def almQualification (i : AlarmId) : Field := ⟨5 * i + 2, .high, 1, 255⟩
/-- The rearm count field. -/
def almRearm (i : AlarmId) : Field := ⟨5 * i + 2, .low, 0, 255⟩
/-- The horn pattern field. -/
def almHorn (i : AlarmId) : Field := ⟨5 * i + 3, .word, 0, 15⟩
/-- The derate factor field. -/
def almFactor (i : AlarmId) : Field := ⟨5 * i + 4, .word, 0, 256⟩

/-- A definition (R38). -/
structure AlarmDef where
  enabled  : Bool
  masked   : Bool
  latched  : Bool
  severity : Severity
  qualify  : Nat
  rearm    : Nat
  horn     : BitVec 4
  factor   : Nat
deriving DecidableEq, Repr

/-- The severity a code names (R190). -/
def severityOf : Nat → Severity
  | 0 => .info
  | 1 => .warn
  | 2 => .derate
  | _ => .stop

/-- An ID's record in the ALARM page. -/
def alarmRecord (m : Memory) (i : AlarmId) : AlarmDef :=
  { enabled := (almEnable i).read m == 1
    masked := (almMask i).read m == 1
    latched := (almLatch i).read m == 1
    severity := severityOf ((almSeverity i).read m)
    qualify := (almQualification i).read m
    rearm := (almRearm i).read m
    horn := BitVec.ofNat 4 ((almHorn i).read m)
    factor := (almFactor i).read m }

/-- The IDs 0 (LINK_UP_LOST) and 1 (TABLE_CORRUPT) are fixed (R145). -/
def fixedId (i : AlarmId) : Bool := decide (i.val < 2)

/-- The built-in definition of R51. -/
def builtinDef (i : AlarmId) : AlarmDef :=
  { enabled := true, masked := false, latched := true, severity := .stop
    qualify := if fixedId i then 1 else Config.builtinQualification
    rearm := 0, horn := 0, factor := 0 }

/-- The definition in force of an ID (R144, R145). -/
def State.definition (s : State) (i : AlarmId) : AlarmDef :=
  if s.pageValid .alarm then
    if fixedId i then { builtinDef i with horn := (alarmRecord (s.page .alarm).words i).horn }
    else alarmRecord (s.page .alarm).words i
  else builtinDef i

/-! ### WALK (R39) -/

/-- Cam boundary a1..a5, counted from 0. -/
def walkBoundary (k : Fin 5) : Field := ⟨k, .word, 0, 35999⟩
/-- The speed of P1..P4, counted from 0. -/
def walkSpeed (k : Fin 4) : Field := ⟨5 + k, .word, 0, 1000⟩
/-- Rest maximum duration, ms. -/
def walkRestMax : Field := ⟨9, .word, 100, 60000⟩
/-- P1..P4 maximum duration, counted from 0, ms. -/
def walkPhaseMax (k : Fin 4) : Field := ⟨10 + k, .word, 100, 60000⟩
/-- Prep timeout, ms. -/
def walkPrepTimeout : Field := ⟨14, .long, 1000, 120000⟩
/-- Steer tolerance, cdeg. -/
def walkSteerTolerance : Field := ⟨16, .word, 10, 1000⟩
/-- Slack tension, kN. -/
def walkSlackTension : Field := ⟨17, .word, 0, 2000⟩
/-- Walk pay-out limit, per mille. -/
def walkPayOut : Field := ⟨18, .word, 0, 300⟩
/-- Set-down crawl speed, per mille. -/
def walkCrawl : Field := ⟨19, .word, 1, 200⟩
/-- Walk accel slew, per mille per operation. -/
def walkSlew : Field := ⟨20, .word, 1, 1000⟩

/-- A field of the WALK page. -/
def State.walkField (s : State) (f : Field) : Nat := f.read (s.page .walk).words

/-! ### PROFILE (R40, R41) -/

/-- H0, cm. -/
def proH0 : Field := ⟨0, .word, 0, 65000⟩
/-- Hstep, cm. -/
def proHstep : Field := ⟨1, .word, 50, 10000⟩
/-- NH, columns. -/
def proNH : Field := ⟨2, .word, 2, 16⟩
/-- D0, cm. -/
def proD0 : Field := ⟨3, .word, 0, 65000⟩
/-- Dstep, cm. -/
def proDstep : Field := ⟨4, .word, 50, 10000⟩
/-- ND, rows. -/
def proND : Field := ⟨5, .word, 2, 16⟩

/-- The first word of the record of node (i, j), stored at index j × 16 + i (R40). -/
def nodeOffset (i j : Nat) : Nat := 6 + 5 * (j * 16 + i)
/-- The four limits of a node record. -/
inductive Limit where
  | hoistIn
  | hoistOut
  | dragIn
  | dragOut
deriving DecidableEq, Repr
/-- The place of a limit in a node record (R188). -/
def Limit.index : Limit → Nat
  | .hoistIn => 0
  | .hoistOut => 1
  | .dragIn => 2
  | .dragOut => 3
/-- A limit of a node, per mille. -/
def nodeLimit (l : Limit) (i j : Nat) : Field := ⟨nodeOffset i j + l.index, .word, 0, 1000⟩
/-- The zone class of a node. -/
def nodeZone (i j : Nat) : Field := ⟨nodeOffset i j + 4, .word, 0, 4⟩

/-- Hoist tightline threshold, kN. -/
def proHoistTightline : Field := ⟨1286, .word, 0, 10000⟩
/-- Drag tightline threshold, kN. -/
def proDragTightline : Field := ⟨1287, .word, 0, 10000⟩
/-- Hoist accel slew. -/
def proHoistSlew : Field := ⟨1288, .word, 1, 1000⟩
/-- Drag accel slew. -/
def proDragSlew : Field := ⟨1289, .word, 1, 1000⟩
/-- Swing accel slew. -/
def proSwingSlew : Field := ⟨1290, .word, 1, 1000⟩
/-- Creep limit, per mille. -/
def proCreep : Field := ⟨1291, .word, 0, 200⟩
/-- Clamp report margin, per mille. -/
def proMargin : Field := ⟨1292, .word, 0, 1000⟩
/-- Nominal deceleration a_nom. -/
def proNominal : Field := ⟨1293, .word, 10, 5000⟩
/-- Load coefficient k. -/
def proLoad : Field := ⟨1294, .word, 0, 255⟩
/-- Guard, cdeg. -/
def proGuard : Field := ⟨1295, .word, 0, 9000⟩
/-- Slow zone, cdeg. -/
def proSlowZone : Field := ⟨1296, .word, 100, 18000⟩
/-- Global swing limit, per mille. -/
def proSwingLimit : Field := ⟨1297, .word, 0, 1000⟩
/-- Sector count. -/
def proSectors : Field := ⟨1298, .word, 0, 8⟩

/-- The start angle of a sector record. -/
def sectorStart (k : Nat) : Field := ⟨1299 + 5 * k, .word, 0, 35999⟩
/-- The width. -/
def sectorWidth (k : Nat) : Field := ⟨1300 + 5 * k, .word, 1, 35999⟩
/-- The kind: HARD_END 0, GATED 1, SPEED 2. -/
def sectorKind (k : Nat) : Field := ⟨1301 + 5 * k, .word, 0, 2⟩
/-- The required class. -/
def sectorClass (k : Nat) : Field := ⟨1302 + 5 * k, .word, 0, 4⟩
/-- The speed limit, per mille. -/
def sectorSpeed (k : Nat) : Field := ⟨1303 + 5 * k, .word, 0, 1000⟩

/-- The zone a class code names (R40, R190). -/
def zoneOfClass : Nat → Zone
  | 0 => .ground
  | 1 => .dig
  | 2 => .carry
  | 3 => .clear
  | _ => .boomtip

/-- The class code of a zone; UNKNOWN has the code 5 (R190). -/
def Zone.code : Zone → Nat
  | .ground => 0
  | .dig => 1
  | .carry => 2
  | .clear => 3
  | .boomtip => 4
  | .unknown => 5

/-- The kinds of sector (R41). -/
inductive SectorKind where
  | hardEnd
  | gated
  | speed
deriving DecidableEq, Repr

/-- A sector record in use (R41). -/
structure Sector where
  start    : Nat
  width    : Nat
  kind     : SectorKind
  required : Nat
  speed    : Nat
deriving DecidableEq, Repr

/-- The kind a code names (R41). -/
def sectorKindOf : Nat → SectorKind
  | 0 => .hardEnd
  | 1 => .gated
  | _ => .speed

/-- The sectors in use: the records below the sector count (R41). -/
def sectorsOf (m : Memory) : List Sector :=
  (List.range (proSectors.read m)).map fun k =>
    { start := (sectorStart k).read m
      width := (sectorWidth k).read m
      kind := sectorKindOf ((sectorKind k).read m)
      required := (sectorClass k).read m
      speed := (sectorSpeed k).read m }

/-- The contents of the active profile's page. -/
def State.profileWords (s : State) : Memory := (s.page s.activePage).words

/-! ### The structure checks (R48) -/

/-- A check of one field: the offset reported if it fails, and whether it passes. -/
abbrev FieldCheck := Nat × Bool

/-- The range check of a field. -/
def rangeCheck (m : Memory) (f : Field) : FieldCheck := (f.off, f.ok m)

/-- The range check of a field tied to fields before it by a condition (R48). -/
def tiedCheck (m : Memory) (f : Field) (cond : Bool) : FieldCheck := (f.off, f.ok m && cond)

/-- CONFIG: each station differs from the stations before it and from the part's own. -/
def configChecks (own : Nat) (m : Memory) : List FieldCheck :=
  let st := fun a => (cfgStation a).raw m
  let differs := fun a (before : List Axis) => decide (st a ≠ own) && before.all fun b => decide (st a ≠ st b)
  [ tiedCheck m (cfgStation .hoist) (differs .hoist [])
    , tiedCheck m (cfgStation .drag) (differs .drag [.hoist])
    , tiedCheck m (cfgStation .swing) (differs .swing [.hoist, .drag])
    , tiedCheck m (cfgStation .walk) (differs .walk [.hoist, .drag, .swing]) ]
  ++ [cfgReferenceTimeout, cfgFeedbackTimeout, cfgCyclePeriod, cfgFrameErrorThreshold, cfgOverloadTension
    , cfgRestRopeSpeed, cfgRestSwingSpeed].map (rangeCheck m)

/-- ALARM: the eight fields of each record, in ID order; no conditions. -/
def alarmChecks (m : Memory) : List FieldCheck :=
  (List.finRange 24).flatMap fun i =>
    [almEnable i, almMask i, almLatch i, almSeverity i, almQualification i, almRearm i, almHorn i, almFactor i].map
      (rangeCheck m)

/-- WALK: each boundary after a1 is greater than the boundary before it. -/
def walkChecks (m : Memory) : List FieldCheck :=
  let a := fun k => (walkBoundary k).raw m
  [ rangeCheck m (walkBoundary 0)
    , tiedCheck m (walkBoundary 1) (decide (a 0 < a 1))
    , tiedCheck m (walkBoundary 2) (decide (a 1 < a 2))
    , tiedCheck m (walkBoundary 3) (decide (a 2 < a 3))
    , tiedCheck m (walkBoundary 4) (decide (a 3 < a 4)) ]
  ++ [walkSpeed 0, walkSpeed 1, walkSpeed 2, walkSpeed 3, walkRestMax, walkPhaseMax 0, walkPhaseMax 1, walkPhaseMax 2
    , walkPhaseMax 3, walkPrepTimeout, walkSteerTolerance, walkSlackTension, walkPayOut, walkCrawl, walkSlew].map
      (rangeCheck m)

/-- PROFILE: the header, the node records with i < NH and j < ND, the settings, the sectors below the count. -/
def profileChecks (m : Memory) : List FieldCheck :=
  [proH0, proHstep, proNH, proD0, proDstep, proND].map (rangeCheck m)
  ++ ((List.range 16).filter (· < proND.raw m)).flatMap (fun j =>
      ((List.range 16).filter (· < proNH.raw m)).flatMap fun i =>
        [nodeLimit .hoistIn i j, nodeLimit .hoistOut i j, nodeLimit .dragIn i j, nodeLimit .dragOut i j
          , nodeZone i j].map (rangeCheck m))
  ++ [proHoistTightline, proDragTightline, proHoistSlew, proDragSlew, proSwingSlew, proCreep, proMargin, proNominal
    , proLoad, proGuard, proSlowZone, proSwingLimit, proSectors].map (rangeCheck m)
  ++ ((List.range 8).filter (· < proSectors.raw m)).flatMap fun k =>
      [sectorStart k, sectorWidth k, sectorKind k, sectorClass k, sectorSpeed k].map (rangeCheck m)

/-- The structure checks of a page, in the order of position (R48). -/
def structureChecks (own : Nat) (m : Memory) : PageId → List FieldCheck
  | .config => configChecks own m
  | .alarm => alarmChecks m
  | .walk => walkChecks m
  | .profile _ => profileChecks m

/-- The word offset of the failing field: the first check that fails (R48). -/
def failingField (own : Nat) (m : Memory) (id : PageId) : Option Nat :=
  ((structureChecks own m id).find? fun c => !c.2).map Prod.fst

end Sys2Proof.Machine
end

