-- ==== Sys2Proof/Machine/Flags.lean ====
section
/-! DEFINITION. The codes of the enumerated fields (R190) and the flag words of frames and replies (R73, R157, R188). -/

namespace Sys2Proof.Machine

/-! ### Codes (R190) -/

/-- Mode. -/
def Mode.code : Mode → Nat
  | .loading => 0
  | .run => 1
  | .halt => 2

/-- Reset cause. -/
def ResetKind.code : ResetKind → Nat
  | .powerOn => 0
  | .pin => 1
  | .commanded => 2

/-- Page state. -/
def PageState.code : PageState → Nat
  | .empty => 0
  | .written => 1
  | .validating => 2
  | .valid => 3
  | .failed => 4

/-- Axis state. -/
def AxisState.code : AxisState → Nat
  | .unmapped => 0
  | .noSample => 1
  | .fresh => 2
  | .stale => 3

/-- Severity. -/
def Severity.code : Severity → Nat
  | .info => 0
  | .warn => 1
  | .derate => 2
  | .stop => 3

/-- Sequencer state. -/
def SeqState.code : SeqState → Nat
  | .idle => 0
  | .prep => 1
  | .step => 2
  | .setdown => 3

/-- Cam phase. -/
def CamPhase.code : CamPhase → Nat
  | .p1 => 0
  | .p2 => 1
  | .p3 => 2
  | .p4 => 3
  | .rest => 4

/-- Direction. -/
def Direction.code : Direction → Nat
  | .forward => 0
  | .reverse => 1

/-- Set-down cause. -/
def SetdownCause.code : SetdownCause → Nat
  | .cancelled => 1
  | .halted => 2

/-- Step result. -/
def StepResult.code : StepResult → Nat
  | .done => 0
  | .cancelled => 1
  | .halted => 2
  | .stalled => 3
  | .faulted => 4
  | .steerMoved => 5

/-- Status code. -/
def StatusCode.code : StatusCode → Nat
  | .ok => 0
  | .unknownRequest => 1
  | .badArgument => 2
  | .wrongMode => 3
  | .pageInUse => 4
  | .notValid => 5
  | .blocked => 6
  | .checkFailed => 7
  | .structureFailed => 8

/-- The walk request of a REF word: any value above 3 is taken as NONE (R62). -/
def walkRequestOf (w : Word) : WalkRequest :=
  match w.toNat with
  | 1 => .stepFwd
  | 2 => .stepRev
  | 3 => .cancel
  | _ => .none

/-! ### Flag words -/

/-- A word whose bit k is the k-th flag (R188: bit 0 is the least significant, bits not listed are 0). -/
def flagWord (flags : List Bool) : Word :=
  BitVec.ofNat 16 (flags.foldr (fun b n => 2 * n + b.toNat) 0)

/-- Bit k of a flag word the part reads. -/
def flagBit (w : Word) (k : Nat) : Bool := w.getLsbD k

/-- The governor flags of an operation's outgoing REF (R73, R188). -/
def governorFlags (op : Op) : Word :=
  flagWord [op.swingBrake, decide (op.mode = .loading), decide (op.mode = .halt), op.generated
    , op.hoistLimited, op.dragLimited, op.swingLimited, op.session]

/-- The drive flags of an axis record, as READ_IMAGE reports them (R185, R188). -/
def driveFlags (r : AxisRecord) : Word := flagWord [r.fault, r.brakeSet]

/-- The state flags of an ALM frame (R157, R188). -/
def almFlags (inList condition acked forced : Bool) : Word := flagWord [inList, condition, acked, forced]

/-- The attributes of a READ_ALARMS entry (R162, R188). -/
def entryAttributes (e : Entry) (st : AlarmStatus) : Word :=
  flagWord ([e.severity.code.testBit 0, e.severity.code.testBit 1, e.latched, false]
    ++ [e.horn.getLsbD 0, e.horn.getLsbD 1, e.horn.getLsbD 2, e.horn.getLsbD 3]
    ++ [e.acked, st.condition, st.forced])

/-- The flags byte of a READ_ALARM_STATUS record (R163, R188). -/
def statusFlags (st : AlarmStatus) (inList : Bool) : Byte :=
  (flagWord [st.condition, st.armed, st.forced, st.report, inList]).setWidth 8

end Sys2Proof.Machine
end

