-- ==== Sys2Proof/Machine/Alarms.lean ====
section
/-! DEFINITION. The Alarm Unit's operations: what it does with one evaluation, raises and removals, the horn envelope
phase and the derate in force (chapters 8 and 9), and what HALT entry does to the Walk Sequencer (R136), which a
raise can bring about. -/

namespace Sys2Proof.Machine

/-! ### The alarm IDs (R143) -/

/-- LINK_UP_LOST. -/
def idLinkUpLost : AlarmId := 0
/-- TABLE_CORRUPT. -/
def idTableCorrupt : AlarmId := 1
/-- FRAME_ERRORS_UP and FRAME_ERRORS_DOWN. -/
def idFrameErrors : Port → AlarmId
  | .u => 2
  | .d => 3
/-- STALE_x. -/
def idStale : Axis → AlarmId
  | .hoist => 4
  | .drag => 5
  | .swing => 6
  | .walk => 7
/-- DRIVE_FAULT_x. -/
def idDriveFault : Axis → AlarmId
  | .hoist => 8
  | .drag => 9
  | .swing => 10
  | .walk => 11
/-- TIGHTLINE. -/
def idTightline : AlarmId := 12
/-- TWO_BLOCK. -/
def idTwoBlock : AlarmId := 13
/-- ENVELOPE_CLAMP. -/
def idEnvelopeClamp : AlarmId := 14
/-- ROPE_RANGE. -/
def idRopeRange : AlarmId := 15
/-- HOIST_OVERLOAD. -/
def idHoistOverload : AlarmId := 16
/-- SWING_GUARD. -/
def idSwingGuard : AlarmId := 17
/-- SECTOR_VIOLATION. -/
def idSectorViolation : AlarmId := 18
/-- SWING_BRAKE_SLIP. -/
def idBrakeSlip : AlarmId := 19
/-- WALK_STALL. -/
def idWalkStall : AlarmId := 20
/-- WALK_INTERLOCK_WAIT. -/
def idInterlockWait : AlarmId := 21
/-- WALK_STEER. -/
def idWalkSteer : AlarmId := 22
/-- PROFILE_REFUSED. -/
def idProfileRefused : AlarmId := 23

/-! ### The horn and the derate in force -/

/-- An entry sounds when it is not acknowledged and its severity is WARN, DERATE or STOP (R173). -/
def Entry.sounds (e : Entry) : Bool := !e.acked && decide (0 < e.severity.code)

/-- The sounding entry: of those that sound, the highest severity, and of equal severities the oldest (R173). -/
def soundingEntry : List Entry → Option Entry
  | [] => none
  | e :: rest =>
    match soundingEntry rest with
    | none => if e.sounds then some e else none
    | some x => if e.sounds && decide (x.severity.code ≤ e.severity.code) then some e else some x

/-- The horn envelope phase after a change of the list (R173, R174). -/
def State.hornFollow (s : State) : State :=
  let pattern := (soundingEntry s.alarm.list).map (·.horn)
  if pattern = s.alarm.horn then s
  else s.setAlarm { s.alarm with
    horn := pattern
    hornOrigin := if pattern.isSome then s.now else s.alarm.hornOrigin }

/-- The derate in force: the least factor among the entries of severity DERATE, or 256 (R171). -/
def derateOf (l : List Entry) : Nat :=
  (l.filter fun e => decide (e.severity = .derate)).foldl (fun n e => min n e.factor) 256

/-- The derate in force. -/
def State.derate (s : State) : Nat := derateOf s.alarm.list

/-- The list holds an entry of severity STOP (R166, R168, R169). -/
def State.hasStop (s : State) : Bool := s.alarm.list.any fun e => decide (e.severity = .stop)

/-! ### Raise and removal -/

/-- The raise of R151, with the mode change of R168. -/
def State.raise (s : State) (i : AlarmId) : State :=
  let d := s.definition i
  let st := s.status i
  let s1 := s.setStatus i { st with occurred := bump st.occurred, lastRaise := s.now, report := true }
  let e : Entry := ⟨i, d.latched, d.severity, d.horn, d.factor, s.now, false⟩
  let s2 := State.hornFollow (s1.setAlarm { s1.alarm with list := s1.alarm.list ++ [e] })
  if d.severity = .stop ∧ s2.mode = .run then s2.setAlarm { s2.alarm with mode := .halt } else s2

/-- The re-arm test of R150. -/
def State.rearmTest (s : State) (i : AlarmId) : State :=
  let st := s.status i
  if !st.armed && decide ((s.definition i).rearm ≤ st.rearm.toNat) then s.setStatus i { st with armed := true } else s

/-- The removal of an ID's entry (R153): the entry leaves the list, a report is owed, and a SELF ID is disarmed
and given the re-arm test (R150). -/
def State.removeEntry (s : State) (e : Entry) : State :=
  let s1 := State.hornFollow (s.setAlarm { s.alarm with list := s.alarm.list.filter fun x => decide (x.id ≠ e.id) })
  let st := s1.status e.id
  if e.latched then s1.setStatus e.id { st with report := true }
  else (s1.setStatus e.id { st with report := true, armed := false, rearm := 0 }).rearmTest e.id

/-! ### Evaluations, up to the mode -/

/-- A present evaluation (R147) with its raise test (R151), up to and including the mode. -/
def State.present0 (s : State) (i : AlarmId) : State :=
  let d := s.definition i
  let st := s.status i
  let listed := (s.entry? i).isSome
  let count := if d.enabled then bump st.count else 0
  let s1 := s.setStatus i
    { st with condition := true, count := count, report := st.report || (listed && !st.condition) }
  if decide (d.qualify ≤ count.toNat) && d.enabled && !d.masked && !listed && (d.latched || st.armed) then s1.raise i
  else s1

/-- An absent evaluation (R148), taken as present while the ID is forced (R147, R149), up to and including the
mode. -/
def State.absent0 (s : State) (i : AlarmId) : State :=
  let st := s.status i
  if st.forced then s.present0 i
  else
    let st1 := { st with condition := false, count := 0, rearm := bump st.rearm }
    let s1 := s.setStatus i st1
    let s2 :=
      match s.entry? i with
      | none => s1
      | some e =>
        if !e.latched || e.acked then s1.removeEntry e
        else s1.setStatus i { st1 with report := st.report || st.condition }
    s2.rearmTest i

/-- One evaluation, up to and including the mode. -/
def State.evaluate0 (s : State) (i : AlarmId) (present : Bool) : State :=
  if present then s.present0 i else s.absent0 i

/-! ### The step in hand (R121, R136) -/

/-- The duration of a phase with the time since the phase's start added (R121 item 1, R131 item 2); time in
rest is not kept. -/
def CurrentStep.closePhase (c : CurrentStep) (now : Time) : CurrentStep :=
  let t := now - c.phaseStart.getD now
  match c.phase with
  | some .p1 => { c with p1 := c.p1 + t }
  | some .p2 => { c with p2 := c.p2 + t }
  | some .p3 => { c with p3 := c.p3 + t }
  | some .p4 => { c with p4 := c.p4 + t }
  | some .rest => c
  | none => c

/-- The step history with one more record; the oldest is dropped when it holds 8 (R121 item 3). -/
def pushHistory (h : List HistoryRecord) (r : HistoryRecord) : List HistoryRecord :=
  (if h.length < Config.historyCapacity then h else h.drop (h.length + 1 - Config.historyCapacity)) ++ [r]

/-- Ends the current step with a result (R121). -/
def WalkSeq.endStep (w : WalkSeq) (now : Time) (result : StepResult) : WalkSeq :=
  match w.current with
  | none => w
  | some c =>
    let c := c.closePhase now
    { w with
      state := .idle
      current := none
      history := pushHistory w.history
        ⟨c.record.direction, c.record.steer, result, c.start, c.p1, c.p2, c.p3, c.p4⟩ }

/-- Sets the current step down for a cause (R125, R136). -/
def WalkSeq.setDown (w : WalkSeq) (cause : SetdownCause) : WalkSeq :=
  { w with state := .setdown, current := w.current.map fun c => { c with cause := some cause } }

/-- The current phase of the step in hand. -/
def WalkSeq.phase (w : WalkSeq) : Option CamPhase := w.current.bind (·.phase)

/-- HALT entry at the Walk Sequencer (R136). -/
def WalkSeq.haltEntry (w : WalkSeq) (now : Time) : WalkSeq :=
  let w := { w with queue := [] }
  match w.state with
  | .idle => w
  | .prep => w.endStep now .halted
  | .setdown => w
  | .step =>
    match w.phase with
    | some .p2 => w.setDown .halted
    | some .p3 => w.setDown .halted
    | some .p4 => w.setDown .halted
    | _ => w.endStep now .halted

/-- HALT entry, with the absent evaluation of SWING_BRAKE_SLIP when the session ends by it (R140). The mode is
HALT already, so that evaluation changes no mode. -/
def State.haltEntry (s : State) : State :=
  let s1 := s.setWalk (s.walk.haltEntry s.now)
  if s.walk.session && !s1.walk.session then s1.absent0 idBrakeSlip else s1

/-! ### Evaluations -/

/-- One evaluation by the owner of an ID (R143), with HALT entry when its raise moved RUN to HALT (R136, R168,
R170). -/
def State.evaluate (s : State) (i : AlarmId) (present : Bool) : State :=
  let s1 := s.evaluate0 i present
  if s.mode = .run ∧ s1.mode = .halt then s1.haltEntry else s1

/-- The evaluations of one event, in the order given. -/
def State.evaluateAll (s : State) (evs : List (AlarmId × Bool)) : State :=
  evs.foldl (fun s e => s.evaluate e.1 e.2) s

/-- Evaluations of different IDs in one event have no order between them (R143): those named by `order` are
taken first, in its order, then the rest (notes/assumptions/5.md). -/
def arrange : List Nat → List (AlarmId × Bool) → List (AlarmId × Bool)
  | [], evs => evs
  | i :: order, evs =>
    match evs.find? fun e => decide (e.1.val = i) with
    | some e => e :: arrange order (evs.filter fun x => decide (x.1 ≠ e.1))
    | none => arrange order evs

/-- The HALT request's change of mode (R167, R170). -/
def State.enterHalt (s : State) : State :=
  if s.mode = .run then (s.setAlarm { s.alarm with mode := .halt }).haltEntry else s

/-! ### Acknowledgement and forcing -/

/-- Acknowledges an entry (R153, R154): the state, whether the flag changed, whether the entry was removed. -/
def State.ackEntry (s : State) (e : Entry) : State × Bool × Bool :=
  if e.acked then (s, false, false)
  else
    let marked := s.alarm.list.map fun x => if x.id = e.id then { x with acked := true } else x
    let s1 := State.hornFollow (s.setAlarm { s.alarm with list := marked })
    let s2 := s1.setStatus e.id { s1.status e.id with report := true }
    if e.latched && !(s.status e.id).condition then (s2.removeEntry { e with acked := true }, true, true)
    else (s2, true, false)

/-- Acknowledges entries one after another, counting flags set and entries removed (R154). -/
def State.ackAll (s : State) : List Entry → State × Nat × Nat
  | [] => (s, 0, 0)
  | e :: rest =>
    let (s1, setFlag, removed) := s.ackEntry e
    let (s2, n, k) := s1.ackAll rest
    (s2, setFlag.toNat + n, removed.toNat + k)

/-- Clears every forced flag, a report being owed for each that was set (R161). -/
def State.clearForced (s : State) : State :=
  s.setAlarm { s.alarm with
    status := s.alarm.status.map fun st => { st with forced := false, report := st.report || st.forced } }

end Sys2Proof.Machine
end

