-- ==== Sys2Proof/Machine/Pages.lean ====
section
/-! DEFINITION. What a change of a page's state does to its users (R25, R26, R50, R55, R59, R137, R138), and the
Walk Sequencer's end of session (R140). -/

namespace Sys2Proof.Machine

/-- A change of the Walk Sequencer, other than HALT entry and a reset, with the absent evaluation of
SWING_BRAKE_SLIP at the moment the session ends by it (R140). -/
def State.withWalk (s : State) (w : WalkSeq) : State :=
  let s1 := s.setWalk w
  if s.walk.session && !w.session then s1.evaluate idBrakeSlip false else s1

/-- The loss of the walk axis: a step in STEP or SETDOWN ends FAULTED and the queue is emptied (R137). -/
def State.walkAxisLost (s : State) : State :=
  match s.walk.state with
  | .step => s.withWalk { s.walk.endStep s.now .faulted with queue := [] }
  | .setdown => s.withWalk { s.walk.endStep s.now .faulted with queue := [] }
  | .prep => s
  | .idle => s

/-- The WALK page ceasing to be VALID: a step ends FAULTED and the queue is emptied (R138). -/
def State.walkPageLost (s : State) : State :=
  s.withWalk { s.walk.endStep s.now .faulted with queue := [] }

/-- The axis's feedback timer runs and has reached the end of its period (R32). -/
def State.feedbackDue (s : State) (a : Axis) : Bool :=
  (s.axis a).timer.any fun start => s.due start s.feedbackTimeout

/-- A good sample overtook the axis's expiry at this moment (R33, R155, notes/assumptions/30.md). -/
def State.feedbackOvertaken (s : State) (a : Axis) : Bool := decide ((s.axis a).overtaken = some s.now)

/-- The station map taking effect on one axis (R25). -/
def AxisRecord.map (r : AxisRecord) (station : Nat) (now : Time) : AxisRecord :=
  ⟨.noSample, station, 0, 0, 0, false, false, none, r.badSamples, some now, none⟩

/-- The station map taking effect (R25). -/
def State.mapTakesEffect (s : State) : State :=
  let st := fun a => (cfgStation a).read (s.page .config).words
  let m := s.image
  s.setImage { m with
    hoist := m.hoist.map (st .hoist) s.now
    drag := m.drag.map (st .drag) s.now
    swing := m.swing.map (st .swing) s.now
    walk := m.walk.map (st .walk) s.now }

/-- Every axis put in UNMAPPED, its feedback timer stopped, its bad-sample counter kept (R26, R35). -/
def Image.unmapAll (m : Image) : Image :=
  { m with
    hoist := .unmapped m.hoist.badSamples
    drag := .unmapped m.drag.badSamples
    swing := .unmapped m.swing.badSamples
    walk := .unmapped m.walk.badSamples }

/-- The end of the station map (R26); the WALK record leaving FRESH is the loss of the walk axis (R137). -/
def State.mapEnds (s : State) : State :=
  let s1 := s.setImage s.image.unmapAll
  if (s.axis .walk).isFresh then s1.walkAxisLost else s1

/-- The users of a page that ceases to be VALID (R50, R55). -/
def State.pageLost (s : State) (id : PageId) : State :=
  match id with
  | .config => s.mapEnds
  | .walk => s.walkPageLost
  | .alarm => s
  | .profile n =>
    if s.store.pendingProfile = some n then s.setStore { s.store with pendingProfile := none } else s

/-- The users of a page that becomes VALID (R50): the station map of CONFIG takes effect; the others read the
page at their next use. -/
def State.pageGained (s : State) (id : PageId) : State :=
  match id with
  | .config => s.mapTakesEffect
  | .walk => s
  | .alarm => s
  | .profile _ => s

/-- The covered pages of the scan, in order (R57). -/
def State.covered (s : State) : List PageId := [.config, .alarm, .walk, s.activePage]

/-- A pass about to begin from CONFIG (R57, R59). -/
def passStart : CheckRun := ⟨.config, 0, crcInit⟩

/-- A restart of the pass from CONFIG, its first advance being the next one (R59); the idle scan of LOADING is
left idle. -/
def Store.restartPass (t : Store) : Store :=
  { t with scan := t.scan.map fun _ => passStart, scanDue := false }

/-- Puts a page in a state, with everything that follows at that moment: the scan's restart when a covered page
changes state (R59) and the page's users when it enters or leaves VALID (R50). -/
def State.setPageState (s : State) (id : PageId) (st : PageState) : State :=
  let old := (s.page id).state
  let t := s.store.setPage id { s.page id with state := st }
  let t := if old ≠ st ∧ id ∈ s.covered then t.restartPass else t
  let s1 := s.setStore t
  if old = .valid ∧ st ≠ .valid then s1.pageLost id
  else if old ≠ .valid ∧ st = .valid then s1.pageGained id
  else s1

end Sys2Proof.Machine
end

