-- ==== Sys2Proof/Machine/Lines.lean ====
section
/-! DEFINITION. What the part puts on its pins and in the U-port transmit queue of its own accord: the output lines
(R172 to R174, R191) and the U-port transmit arbiter (R15, R157, R158). -/

namespace Sys2Proof.Machine

/-! ### The output lines -/

/-- The level of a line that is on or off. -/
def levelOf (on : Bool) : PinLevel := if on then .high else .low

/-- Whether every envelope that a pattern selects is high at elapsed time `e` (R174). -/
def hornOn (pattern : BitVec 4) (e : Nat) : Bool :=
  (!pattern.getLsbD 0 || decide (e % 1000 < 500)) && (!pattern.getLsbD 1 || decide (e % 500 < 250))
    && (!pattern.getLsbD 2 || decide (e % 250 < 125)) && (!pattern.getLsbD 3 || decide (e % 125 < 63))

/-- HORN under R173 and R174. -/
def State.hornLine (s : State) : Bool := s.alarm.horn.any fun p => hornOn p (since s.now s.alarm.hornOrigin)

/-- ALM is asserted in HALT or while an entry of severity DERATE or STOP stands (R172). -/
def State.almLine (s : State) : Bool :=
  decide (s.mode = .halt) || s.alarm.list.any fun e => decide (2 ≤ e.severity.code)

/-- A transmit line: at rest high, or carrying the characters of the frame being sent (R1, R13). -/
def txLevel (tx : Option Sending) : PinLevel :=
  match tx with
  | none => levelOf restLevel
  | some sent => .data sent.item.frame.levels

/-- The levels the pins have: in every reset HORN, ALM and STOPN low, UTX and DTX high (R191); at work under R172;
without supply nothing is driven and the board holds STOPN low (R191, notes/assumptions/12.md). -/
def State.pinsNow (s : State) : Pins :=
  match s.phase with
  | .off => ⟨.released, .released, .low, .released, .released⟩
  | .resetting _ => Pins.rest
  | .restarting _ => Pins.rest
  | .working =>
    { horn := levelOf s.hornLine
      alm := levelOf s.almLine
      stopn := levelOf (decide (s.mode = .run))
      utx := txLevel s.links.u.tx
      dtx := txLevel s.links.d.tx }

/-- Drives the pins. -/
def State.drive (s : State) : State := s.setPins s.pinsNow

/-! ### The arbiter -/

/-- The lowest alarm ID whose report is pending (R15, R158). -/
def State.firstReport (s : State) : Option AlarmId := (List.finRange 24).find? fun i => (s.status i).report

/-- The part's own station number in a STATION field (R15, R176, R182). -/
def State.stationByte (s : State) : Byte := BitVec.ofNat 8 s.station

/-- The payload of an ID's ALM frame, from its state now (R157, R188). -/
def State.almWords (s : State) (i : AlarmId) : List Word :=
  let st := s.status i
  match s.entry? i with
  | some e =>
    [wordOfNat i, wordOfNat e.severity.code, almFlags true st.condition e.acked st.forced]
      ++ wordsOfTime e.raised ++ [st.occurred.setWidth 16]
  | none =>
    [wordOfNat i, wordOfNat (s.definition i).severity.code, almFlags false st.condition false st.forced]
      ++ wordsOfTime st.lastRaise ++ [st.occurred.setWidth 16]

/-- Places a frame the part composes at the tail of the U-port transmit queue (R15). -/
def State.placeUp (s : State) (kind : Byte) (words : List Word) (origin : Origin) : State :=
  let item : TxFrame := ⟨composeFrame kind s.stationByte words, origin⟩
  s.setPort .u { s.port .u with txQueue := (s.port .u).txQueue ++ [item] }

/-- Places an ID's ALM frame and clears its report-pending flag (R15, R156). -/
def State.placeReport (s : State) (i : AlarmId) : State :=
  (s.placeUp kindAlm (s.almWords i) .alarm).setStatus i { s.status i with report := false }

/-- Places the Management Unit's waiting reply, which ends its wait (R15, R180); an accepted RESTART stays in
service (R177). -/
def State.placeReply (s : State) (words : List Word) (restart : Bool) : State :=
  (s.placeUp kindMrep words (if restart then .restartReply else .reply)).setMgmt
    { s.mgmt with unit := if restart then .restartPlaced else .free }

/-- One grant of the arbiter: a pending report, lowest ID first, else the waiting reply; none when nothing of the
part's own waits (R15). -/
def State.grant (s : State) : Option State :=
  match s.firstReport with
  | some i => some (s.placeReport i)
  | none =>
    match s.mgmt.unit with
    | .replying words restart => some (s.placeReply words restart)
    | .free => none
    | .validating _ => none
    | .restartPlaced => none

/-- The arbiter over at most `n` free slots (R15). -/
def State.arbitrate : Nat → State → State
  | 0, s => s
  | n + 1, s =>
    match s.grant with
    | some s' => State.arbitrate n s'
    | none => s

/-- What the part does of its own accord after an event: the arbiter fills the free slots of the U-port transmit
queue (R15, notes/assumptions/6.md), and the pins follow (R172). -/
def State.settle (s : State) : State :=
  State.drive (State.arbitrate (Config.txCapacityU - (s.port .u).txQueue.length) s)

end Sys2Proof.Machine
end

