-- ==== Sys2Proof/Machine/Receive.lean ====
section
/-! DEFINITION. The receivers and the ports' frame accounting: FRAME_START, BAD_LENGTH, FRAME_COMPLETE, TRUNCATED
(R4 to R9, R21). -/

namespace Sys2Proof.Machine

/-- The receivers take the line: at work, and while a commanded restart is in effect (R21); not in a power-on or
pin reset, without supply, or while CLK is stopped (R191, R192). -/
def State.receiving (s : State) : Bool :=
  s.clk && match s.phase with
    | .working => true
    | .restarting _ => true
    | .resetting _ => false
    | .off => false

/-- Which counter an outcome counts in (R8). -/
def countOutcome (o : RxOutcome) (c : Counters) : Counters :=
  match o with
  | .good _ => { c with good := bump c.good }
  | .badCheck => { c with badCheck := bump c.badCheck }
  | .badLength => { c with badLength := bump c.badLength }
  | .truncated => { c with truncated := bump c.truncated }
  | .misformed => { c with badLength := bump c.badLength }

/-- The consecutive-bad count after an outcome (R8). -/
def consecAfter (o : RxOutcome) (n : Byte) : Byte :=
  match o with
  | .good _ => 0
  | .badCheck => bump n
  | .badLength => bump n
  | .truncated => bump n
  | .misformed => bump n

/-- A GOOD frame enters the receive queue, or is lost and counted at a full one (R9). -/
def State.enqueueRx (s : State) (p : Port) (f : Frame) : State :=
  if (s.port p).rxQueue.length < rxCapacity p then
    s.setPort p { s.port p with rxQueue := (s.port p).rxQueue ++ [f] }
  else s.count p fun c => { c with overrun := bump c.overrun }

/-- A receive outcome: counted, the frame-error condition evaluated (R8), a GOOD frame offered to the receive
queue (R9). -/
def State.takeOutcome (s : State) (p : Port) (o : RxOutcome) : State :=
  let x := s.port p
  let s1 := s.setPort p { x with counters := countOutcome o x.counters, consecBad := consecAfter o x.consecBad }
  let s2 := s1.evaluate (idFrameErrors p) (decide (s1.frameErrorThreshold ≤ (s1.port p).consecBad.toNat))
  match o with
  | .good f => s2.enqueueRx p f
  | .badCheck => s2
  | .badLength => s2
  | .truncated => s2
  | .misformed => s2

/-- A frame ends with an outcome and the receiver returns to HUNTING (R4); while a commanded restart is in effect
the outcome is held (R21). -/
def State.endFrame (s : State) (p : Port) (o : RxOutcome) : State :=
  let s1 := s.setPort p { s.port p with rx := .hunting }
  if s.phase = .working then (s1.takeOutcome p o).settle
  else s1.setLinks { s1.links with held := s1.links.held ++ [(p, o)] }

/-- FRAME_START (R4, R5). In HUNTING a 0xC6 starts a frame and any other byte is ignored. In IN_FRAME a byte that
reaches no outcome, a 0xC6 among them, is ordinary data in its position. -/
def frameStart (p : Port) (b : Byte) (s : State) : State :=
  if s.receiving then
    match (s.port p).rx with
    | .hunting => if b = Config.sync then s.setPort p { s.port p with rx := .inFrame [] } else s
    | .inFrame got =>
      if stillOpen (got ++ [b]) then s.setPort p { s.port p with rx := .inFrame (got ++ [b]) } else s
  else s

/-- BAD_LENGTH (R5): the bytes taken, with `bytes`, end at a LENGTH above 60. -/
def badLength (p : Port) (bytes : List Byte) (s : State) : State :=
  match (s.port p).rx with
  | .hunting => s
  | .inFrame got => if s.receiving && endsBadLength (got ++ bytes) then s.endFrame p .badLength else s

/-- FRAME_COMPLETE (R5, R7): the bytes taken, with `bytes`, end at the second check byte. -/
def frameComplete (p : Port) (bytes : List Byte) (s : State) : State :=
  match (s.port p).rx with
  | .hunting => s
  | .inFrame got =>
    if s.receiving && endsComplete (got ++ bytes) then s.endFrame p (outcomeOf p (frameOfBytes (got ++ bytes))) else s

/-- TRUNCATED (R6): a silence longer than 25 us before the frame is complete. -/
def truncated (p : Port) (bytes : List Byte) (silenceNs : Nat) (s : State) : State :=
  match (s.port p).rx with
  | .hunting => s
  | .inFrame got =>
    if s.receiving && stillOpen (got ++ bytes) && decide (Config.silenceLimitNs < silenceNs) then
      s.endFrame p .truncated
    else s

/-- FRAME_START. -/
def execFrameStart (p : Port) (b : Byte) (s : State) : Host.Outcome State Fault Refusal := .next (frameStart p b s)

/-- BAD_LENGTH. -/
def execBadLength (p : Port) (bytes : List Byte) (s : State) : Host.Outcome State Fault Refusal :=
  .next (badLength p bytes s)

/-- FRAME_COMPLETE. -/
def execFrameComplete (p : Port) (bytes : List Byte) (s : State) : Host.Outcome State Fault Refusal :=
  .next (frameComplete p bytes s)

/-- TRUNCATED. -/
def execTruncated (p : Port) (bytes : List Byte) (silenceNs : Nat) (s : State) : Host.Outcome State Fault Refusal :=
  .next (truncated p bytes silenceNs s)

end Sys2Proof.Machine
end

