-- ==== Sys2Proof/Machine/Resets.lean ====
section
/-! DEFINITION. The three kinds of reset, CLK and the supply: POWER_ON_RESET, PIN_RESET, RESET_END, RESTART_END,
CLOCK_STOP, CLOCK_RESTART, SUPPLY_LOSS, and the commanded restart taking effect (R175 to R178, R191, R192). -/

namespace Sys2Proof.Machine

/-- The station number a sampled strap value gives: 0 becomes 1 and 63 becomes 62 (R176). -/
def stationOfStraps (straps : BitVec 6) : Nat :=
  if straps.toNat = 0 then 1 else if straps.toNat = 63 then 62 else straps.toNat

/-- A power-on or pin reset takes effect: every block at its reset values (R21, R34, R60, R77, R142, R164, R165), the
lines as R191 gives; the reset cause and the station number stand until the reset ends (R175, R176). -/
def State.enterReset (s : State) (k : ResetKind) : State :=
  { State.afterReset s.alarm.resetCause s.station with
    pending := s.pending, phase := .resetting k, clk := s.clk }

/-- POWER_ON_RESET (R175): the supply rises from below its working level. -/
def powerOnReset (s : State) : State := s.enterReset .powerOn

/-- PIN_RESET (R175, R192): RSTN has been low for at least 2 us. One begun in a reset that RSTN ends makes no
second reset. -/
def pinReset (lowNs : Nat) (s : State) : State :=
  if lowNs < Config.resetLowNs then s
  else
    match s.phase with
    | .working => s.enterReset .pin
    | .restarting _ => s.enterReset .pin
    | .resetting _ => s
    | .off => s

/-- RESET_END (R175, R176): the supply stands and RSTN is high; the straps are sampled, every block begins to work
from its reset values, and the reset cause is the kind that ended. -/
def resetEnd (straps : BitVec 6) (s : State) : State :=
  match s.phase with
  | .resetting k => { State.afterReset k (stationOfStraps straps) with pending := s.pending, clk := s.clk }
  | .working => s
  | .restarting _ => s
  | .off => s

/-- A port when a commanded restart takes effect: its counters are kept (R17, R21). -/
def LinkPort.atRestart (x : LinkPort) : LinkPort :=
  { LinkPort.fresh with counters := x.counters }

/-- The commanded restart takes effect (R178): R17, R21, R35, R61, R76, R77, R142, R164; the request queue is kept. -/
def State.restartTakesEffect (s : State) : State :=
  { s with
    phase := .restarting false
    pins := Pins.rest
    links :=
      { s.links with
        u := s.links.u.atRestart, d := s.links.d.atRestart
        watchdog := .running s.now, waitingRef := none, held := [] }
    image := s.image.unmapAll
    store := { s.store with active := 0, pendingProfile := none, scan := none, scanDue := false }
    gov := Governor.fresh
    walk := { s.walk with state := .idle, current := none, queue := [], lockAngle := none }
    alarm := AlarmUnit.fresh s.alarm.resetCause }

/-- RESTART_END (R178): at the next advance of the time base the commanded restart ends. The cause becomes
COMMANDED, the watchdog starts (R21), CONFIG, if VALID, maps its axes (R35), the Management Unit is FREE (R180), and
the held outcomes are processed in order (R21). -/
def restartEnd (s : State) : State :=
  if s.clk ∧ s.phase = .restarting true then
    let s1 : State :=
      { s with
        phase := .working
        links := { s.links with watchdog := .running s.now, held := [] }
        alarm := { s.alarm with resetCause := .commanded }
        mgmt := { s.mgmt with unit := .free } }
    let s2 := if s1.pageValid .config then s1.mapTakesEffect else s1
    (s.links.held.foldl (fun s o => s.takeOutcome o.1 o.2) s2).settle
  else s

/-- The frame being sent, seen TRUNCATED by the partner (R192). -/
def LinkPort.cutSending (x : LinkPort) : LinkPort := { x with tx := x.tx.map fun f => { f with cut := true } }

/-- CLOCK_STOP (R192): the time base, the link timing and every timer stop. -/
def clockStop (s : State) : State :=
  { s with clk := false, links := { s.links with u := s.links.u.cutSending, d := s.links.d.cutSending } }

/-- CLOCK_RESTART (R192): the time base and the timers resume where they stood. -/
def clockRestart (s : State) : State := { s with clk := true }

/-- SUPPLY_LOSS (R191): the part stops working and stops driving its lines; the board holds STOPN low. -/
def supplyLoss (s : State) : State := State.drive { s with phase := .off }

/-- RESTART_END. -/
def execRestartEnd (s : State) : Host.Outcome State Fault Refusal := .next (restartEnd s)

/-- POWER_ON_RESET. -/
def execPowerOnReset (s : State) : Host.Outcome State Fault Refusal := .next (powerOnReset s)

/-- PIN_RESET. -/
def execPinReset (lowNs : Nat) (s : State) : Host.Outcome State Fault Refusal := .next (pinReset lowNs s)

/-- RESET_END. -/
def execResetEnd (straps : BitVec 6) (s : State) : Host.Outcome State Fault Refusal := .next (resetEnd straps s)

/-- CLOCK_STOP. -/
def execClockStop (s : State) : Host.Outcome State Fault Refusal := .next (clockStop s)

/-- CLOCK_RESTART. -/
def execClockRestart (s : State) : Host.Outcome State Fault Refusal := .next (clockRestart s)

/-- SUPPLY_LOSS. -/
def execSupplyLoss (s : State) : Host.Outcome State Fault Refusal := .next (supplyLoss s)

end Sys2Proof.Machine
end

