-- ==== Sys2Proof/Machine/Transmit.lean ====
section
/-! DEFINITION. The transmitters: TRANSMIT_START and TRANSMIT_COMPLETE (R13, R14, R178). -/

namespace Sys2Proof.Machine

/-- An idle transmitter takes the head of its transmit queue and begins to send it, which frees one slot (R13). -/
def LinkPort.takeHead (x : LinkPort) : LinkPort :=
  match x.tx, x.txQueue with
  | none, f :: rest => { x with tx := some ⟨f, false⟩, txQueue := rest }
  | _, _ => x

/-- TRANSMIT_START. -/
def transmitStart (p : Port) (s : State) : State :=
  s.atWork fun s => (s.setPort p (s.port p).takeHead).settle

/-- TRANSMIT_COMPLETE: the transmitter takes the next head frame at once, or goes idle (R13). When the frame sent is
the RESTART reply, the commanded restart takes effect (R178). -/
def transmitComplete (p : Port) (s : State) : State :=
  s.atWork fun s =>
    match (s.port p).tx with
    | none => s
    | some sent =>
      if sent.item.origin = .restartReply then s.restartTakesEffect
      else (s.setPort p { s.port p with tx := none }.takeHead).settle

/-- The outgoing REF of an operation placed in the D-port transmit queue (R14): it replaces a waiting REF in the
same position, or goes to the head, the newest MREQ giving way when four wait. -/
def State.placeRef (s : State) (f : Frame) : State :=
  let q := (s.port .d).txQueue
  let item : TxFrame := ⟨f, .reference⟩
  let isRef := fun x : TxFrame => decide (x.origin = .reference)
  if q.any isRef then
    let s1 := s.setPort .d { s.port .d with txQueue := q.map fun x => if isRef x then item else x }
    s1.setLinks { s1.links with superseded := bump s1.links.superseded }
  else if q.length < Config.txCapacityD then s.setPort .d { s.port .d with txQueue := item :: q }
  else
    (s.setPort .d { s.port .d with txQueue := item :: q.dropLast }).count .d
      fun c => { c with txDrops := bump c.txDrops }

/-- TRANSMIT_START. -/
def execTransmitStart (p : Port) (s : State) : Host.Outcome State Fault Refusal := .next (transmitStart p s)

/-- TRANSMIT_COMPLETE. -/
def execTransmitComplete (p : Port) (s : State) : Host.Outcome State Fault Refusal := .next (transmitComplete p s)

end Sys2Proof.Machine
end

