-- ==== Sys2Proof/Machine/Governing.lean ====
section
/-! DEFINITION. The arithmetic the stages of a reference operation share: saturation, clamp, derate, slew, and angles
on the circle (R62, R92, R95, R97, R106, R115, R116, R128, R130). -/

namespace Sys2Proof.Machine

/-- A command word saturated to -1000..+1000 (R62). -/
def saturate (w : Word) : Int := max (-1000) (min 1000 w.toInt)

/-- The clamp of a command by its in-limit and out-limit (R92, R113). -/
def clampTo (c : Int) (inLimit outLimit : Nat) : Int :=
  if 0 < c then min c inLimit else if c < 0 then max c (-outLimit) else 0

/-- The derate step: (v × f) / 256 truncated toward zero (R95, R115). -/
def derateBy (v : Int) (f : Nat) : Int := (v * f).tdiv 256

/-- The slew step from the baseline `b` with the accel slew `s` (R97, R116, R130). -/
def slewFrom (b v : Int) (s : Nat) : Int :=
  if v ≠ 0 ∧ b ≠ 0 ∧ v.sign ≠ b.sign then 0
  else if b.natAbs < v.natAbs then b + v.sign * (min (v.natAbs - b.natAbs) s : Nat)
  else v

/-- (a − b) taken modulo 36000 (R106). -/
def angleSub (a b : Nat) : Nat := (a + (36000 - b % 36000)) % 36000

/-- The circular distance between two angles, 0..18000 (R128). -/
def circularDistance (a b : Nat) : Nat := min (angleSub a b) (angleSub b a)

/-- An angle lies inside a sector (R89, R106). -/
def Sector.inside (x : Sector) (angle : Nat) : Bool := decide (angleSub angle x.start < x.width)

end Sys2Proof.Machine
end

