-- ==== Sys2Proof/Machine/Walking.lean ====
section
/-! DEFINITION. The Walk Sequencer's handling of feedback and its walk stage (chapter 7). -/

namespace Sys2Proof.Machine

/-- The phase of a cam angle from the WALK page's boundaries (R122). -/
def State.camPhase (s : State) (angle : Nat) : CamPhase :=
  let a := fun k => s.walkField (walkBoundary k)
  if a 0 ≤ angle ∧ angle < a 1 then .p1
  else if a 1 ≤ angle ∧ angle < a 2 then .p2
  else if a 2 ≤ angle ∧ angle < a 3 then .p3
  else if a 3 ≤ angle ∧ angle < a 4 then .p4
  else .rest

/-- The maximum duration of a phase (R133). -/
def State.phaseMax (s : State) : CamPhase → Nat
  | .p1 => s.walkField (walkPhaseMax 0)
  | .p2 => s.walkField (walkPhaseMax 1)
  | .p3 => s.walkField (walkPhaseMax 2)
  | .p4 => s.walkField (walkPhaseMax 3)
  | .rest => s.walkField walkRestMax

/-- The result of a step that ends with its set-down cause (R132). A step in SETDOWN has a cause. -/
def setdownResult : Option SetdownCause → StepResult
  | some .halted => .halted
  | some .cancelled => .cancelled
  | none => .cancelled

/-! ### Walk feedback (R131 to R133, R140) -/

/-- The step moved to the phase a sample shows (R131 item 2). -/
def CurrentStep.enterPhase (c : CurrentStep) (ph : CamPhase) (now : Time) : CurrentStep :=
  if c.phase = some ph then c else { c.closePhase now with phase := some ph, phaseStart := some now }

/-- How a sample that shows the phase `ph` ends a step, if it does (R132); `changed` says that the phase changed
at this sample. -/
def sampleEnds (state : SeqState) (changed : Bool) (ph : CamPhase) (cause : Option SetdownCause) :
    Option StepResult :=
  match state, ph with
  | .step, .rest => if changed then some .done else none
  | .setdown, .rest => some (setdownResult cause)
  | .setdown, .p1 => some (setdownResult cause)
  | _, _ => none

/-- The time in the phase exceeds its maximum (R133). -/
def State.stalled (s : State) (c : CurrentStep) (ph : CamPhase) : Bool :=
  decide (s.phaseMax ph < since s.now (c.phaseStart.getD s.now))

/-- A good WALK sample at the Walk Sequencer, the record already updated (R131). A stall ends the step and empties
the queue before a HALT that its evaluation brings about is taken (R139, notes/assumptions/20.md). -/
def State.walkSample (s : State) : State :=
  match s.walk.current with
  | none => s
  | some c =>
    if s.walk.state = .step ∨ s.walk.state = .setdown then
      let r := s.axis .walk
      if r.fault then s.walkAxisLost
      else
        let ph := s.camPhase r.position
        let changed := decide (c.phase ≠ some ph)
        let w := { s.walk with current := some (c.enterPhase ph s.now) }
        match sampleEnds s.walk.state changed ph c.cause with
        | some result => s.withWalk (w.endStep s.now result)
        | none =>
          if !changed && s.stalled c ph then
            (s.withWalk { w.endStep s.now .stalled with queue := [] }).evaluate idWalkStall true
          else s.withWalk w
    else s

/-- A good SWING sample at the Walk Sequencer: SWING_BRAKE_SLIP is evaluated while the session is active (R140). -/
def State.swingSample (s : State) : State :=
  match s.walk.lockAngle with
  | none => s
  | some lock =>
    if s.walk.session then
      s.evaluate idBrakeSlip
        (decide (s.walkField walkSteerTolerance < circularDistance (s.axis .swing).position lock))
    else s

/-! ### The walk stage (R123 to R130) -/

/-- A step request (R124). -/
def State.requestStep (s : State) (mode : Mode) (dir : Direction) : State :=
  let angle := (s.axis .swing).position
  if mode = .run ∧ s.pageValid .walk ∧ (s.axis .swing).isFresh then
    if s.walk.queue.length < Config.stepCapacity then
      s.setWalk { s.walk with
        queue := s.walk.queue ++ [⟨dir, angle, s.now⟩]
        lockAngle := if s.walk.session then s.walk.lockAngle else some angle }
    else s.setWalk { s.walk with queueFull := bump s.walk.queueFull }
  else s

/-- CANCEL's effect on the Walk Sequencer (R125). -/
def WalkSeq.cancel (w : WalkSeq) (now : Time) : WalkSeq :=
  let w := { w with queue := [] }
  match w.state with
  | .idle => w
  | .prep => w.endStep now .cancelled
  | .setdown => w
  | .step =>
    match w.phase with
    | some .p2 => w.setDown .cancelled
    | some .p3 => w.setDown .cancelled
    | some .p4 => w
    | _ => w.endStep now .cancelled

/-- Item 1 of R123: what a request does; a request that is not new asks for nothing. -/
def State.walkRequest (s : State) (mode : Mode) (req : WalkRequest) (isNew : Bool) : State :=
  if !isNew then s
  else
    match req with
    | .none => s
    | .stepFwd => s.requestStep mode .forward
    | .stepRev => s.requestStep mode .reverse
    | .cancel => s.withWalk (s.walk.cancel s.now)

/-- Item 2 of R123: the head record becomes the current step (R126). -/
def State.leaveIdle (s : State) (mode : Mode) : State :=
  match s.walk.queue with
  | [] => s
  | r :: rest =>
    if s.walk.state = .idle ∧ mode = .run then
      s.setWalk { s.walk with
        state := .prep
        queue := rest
        current := some ⟨r, s.now, none, none, 0, 0, 0, 0, none⟩ }
    else s

/-- The interlocks of R127, with the zone the walk stage read. -/
def State.interlocksHold (s : State) (zone : Zone) : Bool :=
  decide (zone = .ground)
    && s.pageValid .walk
    && decide ((s.axis .hoist).tension ≤ s.walkField walkSlackTension)
    && decide ((s.axis .swing).speed.natAbs ≤ s.restSwingSpeed)
    && (s.axis .swing).brakeSet
    && (s.axis .hoist).isFresh && (s.axis .drag).isFresh && (s.axis .swing).isFresh && (s.axis .walk).isFresh
    && !(s.axis .walk).fault

/-- Item 3 of R123: the interlocks and the steer check (R127, R128). The second component is the evaluation of
WALK_STEER the check makes, if it is made. -/
def State.tryStart (s : State) (zone : Zone) : State × Option Bool :=
  match s.walk.current with
  | none => (s, none)
  | some c =>
    if s.walk.state = .prep ∧ s.interlocksHold zone then
      if circularDistance (s.axis .swing).position c.record.steer ≤ s.walkField walkSteerTolerance then
        let c := { c with phase := some (s.camPhase (s.axis .walk).position), phaseStart := some s.now }
        (s.setWalk { s.walk with state := .step, current := some c }, some false)
      else (s.withWalk (s.walk.endStep s.now .steerMoved), some true)
    else (s, none)

/-- The step in PREP has waited longer than the prep timeout (R129). -/
def State.interlockWait (s : State) : Bool :=
  match s.walk.current with
  | none => false
  | some c => decide (s.walk.state = .prep) && decide (s.walkField walkPrepTimeout < since s.now c.start)

/-- The absent evaluations of a walk stage that ends IDLE: WALK_STALL (R135), and with the queue empty WALK_STEER,
unless the steer check has evaluated it (R128). -/
def State.idleEvaluations (s : State) (steer : Option Bool) : List (AlarmId × Bool) :=
  if s.walk.state = .idle then
    (if steer.isNone && s.walk.queue.isEmpty then [(idWalkSteer, false)] else []) ++ [(idWalkStall, false)]
  else []

/-- Item 4 of R123: the evaluations of WALK_INTERLOCK_WAIT (R129), WALK_STEER (R128) and WALK_STALL (R135), from
the state the items before left. -/
def State.walkEvaluations (s : State) (steer : Option Bool) : List (AlarmId × Bool) :=
  (idInterlockWait, s.interlockWait) :: steer.toList.map (fun present => (idWalkSteer, present)) ++ s.idleEvaluations steer

/-- The speed of a phase from the WALK page; in rest that of the first phase of the direction (R130). -/
def State.phaseSpeed (s : State) (dir : Direction) : CamPhase → Nat
  | .p1 => s.walkField (walkSpeed 0)
  | .p2 => s.walkField (walkSpeed 1)
  | .p3 => s.walkField (walkSpeed 2)
  | .p4 => s.walkField (walkSpeed 3)
  | .rest =>
    match dir with
    | .forward => s.walkField (walkSpeed 0)
    | .reverse => s.walkField (walkSpeed 3)

/-- A magnitude signed by a step's direction (R130). -/
def signedBy (dir : Direction) (n : Nat) : Int :=
  match dir with
  | .forward => n
  | .reverse => -n

/-- The target of the walk reference before slew (R130); 0 while the WALK page is not VALID. -/
def State.walkTarget (s : State) : Int :=
  match s.walk.current with
  | none => 0
  | some c =>
    if !s.pageValid .walk then 0
    else
      match s.walk.state with
      | .idle => 0
      | .prep => 0
      | .step =>
        match c.phase with
        | some ph => signedBy c.record.direction (s.phaseSpeed c.record.direction ph)
        | none => 0
      | .setdown => signedBy c.record.direction (s.walkField walkCrawl)

/-- The walk reference (R130). -/
def State.walkReference (s : State) : Int :=
  if s.pageValid .walk then slewFrom s.gov.baseWalk s.walkTarget (s.walkField walkSlew) else 0

/-- The evaluations of item 4 in the order taken. Where they bring the stage to IDLE (a raise of WALK_INTERLOCK_WAIT
enters HALT and ends the step in PREP, R136), the evaluations of a stage that ends IDLE follow
(notes/assumptions/21.md). -/
def State.walkEvaluate (s : State) (steer : Option Bool) (order : List Nat) : State :=
  let s1 := s.evaluateAll (arrange order (s.walkEvaluations steer))
  if s.walk.state = .idle then s1 else s1.evaluateAll (arrange order (s1.idleEvaluations steer))

/-- The walk stage (R68, R123): the state after it, the walk session flag as the stage ends and the walk reference
from items 1 to 3 (R130). -/
def State.walkStage (s : State) (mode : Mode) (req : WalkRequest) (order : List Nat) : State × Bool × Int :=
  let s1 := s.walkRequest mode req (decide (req ≠ s.gov.edge))
  let s2 := s1.leaveIdle mode
  let (s3, steer) := s2.tryStart s.gov.zone
  let s4 := s3.walkEvaluate steer order
  (s4, s4.walk.session, s3.walkReference)

end Sys2Proof.Machine
end

