-- ==== Sys2Proof/Machine/Rope.lean ====
section
/-! DEFINITION. The rope stage: the profile request and the rest-point switch (R53 to R56), the envelope lookup,
interpolation, zone, modifiers, clamp, derate, mode and slew (R69, R70, R78 to R99). -/

namespace Sys2Proof.Machine

/-! ### The profile request and the switch -/

/-- The profile request of an operation (R53, R54): the pending profile after it, and whether PROFILE_REFUSED is
evaluated present. -/
def State.profileRequest (s : State) (mode : Mode) (req : Word) : State × Bool :=
  if mode = .loading then (s, false)
  else if req = noneWord then (s, false)
  else if req.toNat = s.store.active.val then (s.setStore { s.store with pendingProfile := none }, false)
  else if h : req.toNat < 4 then
    if s.pageValid (.profile ⟨req.toNat, h⟩) then
      (s.setStore { s.store with pendingProfile := some ⟨req.toNat, h⟩ }, false)
    else (s, true)
  else (s, true)

/-- The machine is at a rest point (R56). -/
def State.atRestPoint (s : State) : Bool :=
  decide (s.gov.baseHoist = 0) && decide (s.gov.baseDrag = 0)
    && (s.axis .hoist).isFresh && (s.axis .drag).isFresh && (s.axis .swing).isFresh
    && decide ((s.axis .hoist).speed.natAbs ≤ s.restRopeSpeed)
    && decide ((s.axis .drag).speed.natAbs ≤ s.restRopeSpeed)
    && decide ((s.axis .swing).speed.natAbs ≤ s.restSwingSpeed)

/-- The switch of profile at a rest point (R56), which restarts the scan's pass (R59). -/
def State.profileSwitch (s : State) : State :=
  match s.store.pendingProfile with
  | none => s
  | some n =>
    if s.atRestPoint then
      s.setStore (Store.restartPass { s.store with active := n, pendingProfile := none })
    else s

/-! ### Lookup and interpolation (R80 to R83) -/

/-- A lookup: the lower index, the fraction in 256ths, and whether the payout lies outside the grid. -/
structure Lookup where
  index    : Nat
  fraction : Nat
  outside  : Bool
deriving DecidableEq, Repr

/-- The lookup of R80 and R81: payout `x` in a grid of `n` lines from `x0`, `step` apart. -/
def gridLookup (x x0 step n : Nat) : Lookup :=
  if x ≤ x0 then ⟨0, 0, decide (x < x0)⟩
  else if x0 + (n - 1) * step ≤ x then ⟨n - 2, 256, decide (x0 + (n - 1) * step < x)⟩
  else
    let i := (x - x0) / step
    ⟨i, (x - x0 - i * step) * 256 / step, false⟩

/-- The interpolation of R82. -/
def interpolate (l00 l10 l01 l11 fh fd : Nat) : Nat :=
  let near := l00 * (256 - fh) + l10 * fh
  let far := l01 * (256 - fh) + l11 * fh
  (near * (256 - fd) + far * fd) / 65536

/-- A limit at the bucket's place (R82). -/
def limitAt (m : Memory) (h d : Lookup) (l : Limit) : Nat :=
  let node := fun i j => (nodeLimit l i j).read m
  interpolate (node h.index d.index) (node (h.index + 1) d.index) (node h.index (d.index + 1))
    (node (h.index + 1) (d.index + 1)) h.fraction d.fraction

/-- The nearest node's index (R83): a fraction of exactly 128 takes the upper node. -/
def Lookup.nearest (x : Lookup) : Nat := if x.fraction < 128 then x.index else x.index + 1

/-- The class of the nearest node (R83). -/
def zoneAt (m : Memory) (h d : Lookup) : Zone := zoneOfClass ((nodeZone h.nearest d.nearest).read m)

/-! ### What the stage works from (R78, R79) -/

/-- The hoist lookup of the active profile (R80). -/
def State.hoistLookup (s : State) : Lookup :=
  let m := s.profileWords
  gridLookup (s.axis .hoist).position (proH0.read m) (proHstep.read m) (proNH.read m)

/-- The drag lookup (R81). -/
def State.dragLookup (s : State) : Lookup :=
  let m := s.profileWords
  gridLookup (s.axis .drag).position (proD0.read m) (proDstep.read m) (proND.read m)

/-- The stage has a usable table (R79). -/
def State.usableTable (s : State) : Bool :=
  s.pageValid s.activePage && (s.axis .hoist).isFresh && (s.axis .drag).isFresh

/-- The creep limit (R84). -/
def State.creepLimit (s : State) : Nat := if s.pageValid s.activePage then proCreep.read s.profileWords else 0

/-- A limit before the modifiers: interpolated with a usable table (R82), else the creep limit (R84). -/
def State.baseLimit (s : State) (l : Limit) : Nat :=
  if s.usableTable then limitAt s.profileWords s.hoistLookup s.dragLookup l else s.creepLimit

/-- The zone the stage computes (R83, R84). -/
def State.zoneNow (s : State) : Zone :=
  if s.usableTable then zoneAt s.profileWords s.hoistLookup s.dragLookup else .unknown

/-! ### Modifiers (R85 to R89) -/

/-- The tightline modifier applies (R86). -/
def State.tightline (s : State) (ch cd : Int) : Bool :=
  s.usableTable && decide (0 < ch) && decide (0 < cd)
    && decide (proHoistTightline.read s.profileWords ≤ (s.axis .hoist).tension)
    && decide (proDragTightline.read s.profileWords ≤ (s.axis .drag).tension)

/-- The overload modifier applies (R87). -/
def State.overload (s : State) : Bool :=
  (s.axis .hoist).isFresh && decide (s.overloadTension ≤ (s.axis .hoist).tension)

/-- The walk pay-out limit (R88): 0 while the WALK page is not VALID. -/
def State.walkPayOutLimit (s : State) : Nat := if s.pageValid .walk then s.walkField walkPayOut else 0

/-- The gated-sector modifier applies (R89). -/
def State.gatedHold (s : State) : Bool :=
  s.usableTable && (s.axis .swing).isFresh
    && (sectorsOf s.profileWords).any fun x =>
      decide (x.kind = .gated) && x.inside (s.axis .swing).position && decide (x.required = s.zoneNow.code)

/-- The smaller of a limit and a modifier's value, when the modifier applies (R85). -/
def lower (limit : Nat) (applies : Bool) (value : Nat) : Nat := if applies then min limit value else limit

/-- A limit after the modifiers (R85). -/
def State.limit (s : State) (op : Op) : Limit → Nat
  | .hoistIn => lower (lower (s.baseLimit .hoistIn) s.overload 0) op.session 0
  | .hoistOut => lower (lower (s.baseLimit .hoistOut) op.session s.walkPayOutLimit) s.gatedHold 0
  | .dragIn => lower (lower (s.baseLimit .dragIn) (s.tightline op.hoistCommand op.dragCommand) 0) op.session 0
  | .dragOut => lower (s.baseLimit .dragOut) op.session s.walkPayOutLimit

/-! ### Clamp to slew (R92 to R97) -/

/-- The clamped hoist command (R92). -/
def State.hoistClamped (s : State) (op : Op) : Int :=
  clampTo op.hoistCommand (s.limit op .hoistIn) (s.limit op .hoistOut)

/-- The clamped drag command (R92). -/
def State.dragClamped (s : State) (op : Op) : Int :=
  clampTo op.dragCommand (s.limit op .dragIn) (s.limit op .dragOut)

/-- The mode step: forced to 0 in LOADING and HALT (R96). -/
def forceByMode (mode : Mode) (v : Int) : Int := if mode = .run then v else 0

/-- The slew step of a rope, no slew being read while the active profile is not VALID (R97). -/
def State.ropeSlew (s : State) (b v : Int) (f : Field) : Int :=
  if s.pageValid s.activePage then slewFrom b v (f.read s.profileWords) else 0

/-- The hoist reference (R95 to R97). -/
def State.hoistReference (s : State) (op : Op) : Int :=
  s.ropeSlew s.gov.baseHoist (forceByMode op.mode (derateBy (s.hoistClamped op) op.derate)) proHoistSlew

/-- The drag reference (R95 to R97). -/
def State.dragReference (s : State) (op : Op) : Int :=
  s.ropeSlew s.gov.baseDrag (forceByMode op.mode (derateBy (s.dragClamped op) op.derate)) proDragSlew

/-! ### Evaluations (R86, R87, R90, R91, R93) -/

/-- A payout tested lies outside the grid (R91). -/
def State.ropeOutside (s : State) : Bool :=
  s.pageValid s.activePage
    && (((s.axis .hoist).isFresh && s.hoistLookup.outside) || ((s.axis .drag).isFresh && s.dragLookup.outside))

/-- The clamp report margin: 0 while the active profile is not VALID (R93). -/
def State.clampMargin (s : State) : Nat := if s.pageValid s.activePage then proMargin.read s.profileWords else 0

/-- A reduction beyond the clamp report margin (R93). -/
def State.envelopeClamped (s : State) (op : Op) : Bool :=
  decide (s.clampMargin < op.hoistCommand.natAbs - (s.hoistClamped op).natAbs)
    || decide (s.clampMargin < op.dragCommand.natAbs - (s.dragClamped op).natAbs)

/-- The evaluations of the governing part (R98). -/
def State.ropeEvaluations (s : State) (op : Op) : List (AlarmId × Bool) :=
  [ (idTightline, s.tightline op.hoistCommand op.dragCommand)
    , (idTwoBlock, decide (s.zoneNow = .boomtip) && decide (0 < op.hoistCommand))
    , (idEnvelopeClamp, s.envelopeClamped op)
    , (idRopeRange, s.ropeOutside)
    , (idHoistOverload, s.overload) ]

/-- What the rope stage hands on in the operation (R98). -/
def State.ropeResult (s : State) (op : Op) : Op :=
  { op with
    stage := .swing
    hoistRef := s.hoistReference op
    dragRef := s.dragReference op
    hoistLimited := decide ((s.hoistClamped op).natAbs < op.hoistCommand.natAbs)
    dragLimited := decide ((s.dragClamped op).natAbs < op.dragCommand.natAbs) }

/-- The rope stage of an operation (R69): the profile request, the switch, then the governing part, which reads the
state as the switch left it and publishes the zone and the flag at its end (R70). -/
def State.ropeStage (s : State) (op : Op) (order : List Nat) : State :=
  let (s1, refused) := s.profileRequest op.mode op.profileRequest
  let s2 := s1.profileSwitch
  let s3 := (s2.evaluate idProfileRefused refused).evaluateAll (arrange order (s2.ropeEvaluations op))
  s3.setGov { s3.gov with zone := s2.zoneNow, insideGated := s2.gatedHold, op := some (s2.ropeResult op) }

/-- ROPE_STAGE. -/
def ropeStage (order : List Nat) (s : State) : State :=
  s.atWork fun s =>
    match s.gov.op with
    | none => s
    | some op => if op.stage = .rope then (s.ropeStage op order).settle else s

/-- ROPE_STAGE. -/
def execRopeStage (order : List Nat) (s : State) : Host.Outcome State Fault Refusal := .next (ropeStage order s)

end Sys2Proof.Machine
end

