-- ==== Sys2Proof/Machine/Swing.lean ====
section
/-! DEFINITION. The swing stage (R71, R100 to R118). -/

namespace Sys2Proof.Machine

/-- The rank of a zone for the swing stage (R104); UNKNOWN ranks below every class. -/
def Zone.rank : Zone → Int
  | .unknown => -1
  | .ground => 0
  | .dig => 1
  | .carry => 2
  | .clear => 3
  | .boomtip => 3

/-- A sector in use blocks at a zone (R105). -/
def Sector.blocks (x : Sector) (z : Zone) : Bool :=
  match x.kind with
  | .hardEnd => true
  | .gated => decide (z.rank < x.required)
  | .speed => false

/-- The last angle inside a sector (R106). -/
def Sector.last (x : Sector) : Nat := (x.start + x.width - 1) % 36000

/-- The distance ahead to a sector in the direction of a command (R107). -/
def Sector.ahead (x : Sector) (angle : Nat) (positive : Bool) : Nat :=
  if positive then angleSub x.start angle else angleSub angle x.last

/-- The least of a list of numbers, none of an empty one (R108). -/
def least : List Nat → Option Nat
  | [] => none
  | n :: rest =>
    match least rest with
    | none => some n
    | some k => some (min n k)

/-! ### Stopping distance (R102, R103) -/

/-- The hoist tension the stage takes (R102). -/
def State.swingTension (s : State) : Nat := if (s.axis .hoist).isFresh then (s.axis .hoist).tension else 0

/-- The effective deceleration (R102). -/
def effectiveDeceleration (nominal load tension : Nat) : Nat := max 1 (nominal * 4096 / (4096 + load * tension))

/-- The stopping distance (R103): the quotient rounded up. -/
def stoppingDistance (speed : Int) (decel : Nat) : Nat := (speed.natAbs ^ 2 + (2 * decel - 1)) / (2 * decel)

/-- The limit from the sectors ahead (R111) at the distance `delta`. -/
def taperLimit (global slowZone guard delta dStop : Nat) : Nat :=
  let m : Int := delta - dStop - guard
  if m ≤ 0 then 0
  else if m < slowZone then global * m.toNat / slowZone
  else global

/-! ### Sectors and the swing limit (R108 to R112) -/

/-- The blocking sectors of the operation (R105). -/
def State.blockingSectors (s : State) : List Sector := (sectorsOf s.profileWords).filter (·.blocks s.gov.zone)

/-- The house is inside a blocking sector (R108). -/
def State.insideBlocking (s : State) : Bool := s.blockingSectors.any (·.inside (s.axis .swing).position)

/-- The least distance ahead to a blocking sector (R108). -/
def State.distanceAhead (s : State) (positive : Bool) : Option Nat :=
  least (s.blockingSectors.map fun x => x.ahead (s.axis .swing).position positive)

/-- The stopping distance of the stage (R103). -/
def State.stopDistance (s : State) : Nat :=
  let m := s.profileWords
  stoppingDistance (s.axis .swing).speed (effectiveDeceleration (proNominal.read m) (proLoad.read m) s.swingTension)

/-- The limit from the sectors ahead (R111): the global limit without a blocking sector. -/
def State.aheadLimit (s : State) (positive : Bool) : Nat :=
  let m := s.profileWords
  match s.distanceAhead positive with
  | none => proSwingLimit.read m
  | some delta => taperLimit (proSwingLimit.read m) (proSlowZone.read m) (proGuard.read m) delta s.stopDistance

/-- The limit before the SPEED caps (R110). -/
def State.uncappedLimit (s : State) (c : Int) : Nat :=
  let speed := (s.axis .swing).speed
  if c = 0 then proSwingLimit.read s.profileWords
  else if speed ≠ 0 ∧ c.sign ≠ speed.sign then proSwingLimit.read s.profileWords
  else s.aheadLimit (decide (0 < c))

/-- The least speed limit among the SPEED sectors the house is inside (R108, R112). -/
def State.speedCap (s : State) : Option Nat :=
  least (((sectorsOf s.profileWords).filter fun x =>
    decide (x.kind = .speed) && x.inside (s.axis .swing).position).map (·.speed))

/-- The swing limit of an unforced operation (R109 to R112). -/
def State.swingLimit (s : State) (c : Int) : Nat :=
  if s.insideBlocking then 0
  else
    match s.speedCap with
    | none => s.uncappedLimit c
    | some cap => min (s.uncappedLimit c) cap

/-! ### The stage -/

/-- The swing output is forced to zero (R101). R118 says that the first operation after any reset finds SWING not FRESH and
is forced: the model makes no rule of it beside R101, so a good sample (R30) and a GO taken before that operation may
leave it unforced (notes/assumptions/31.md). -/
def State.swingForced (s : State) (op : Op) : Bool :=
  !(s.axis .swing).isFresh || op.session || decide (op.mode ≠ .run) || op.brakeRequest || !s.pageValid s.activePage

/-- The clamped swing command of an unforced operation (R113). -/
def State.swingClamped (s : State) (op : Op) : Int :=
  clampTo op.swingCommand (s.swingLimit op.swingCommand) (s.swingLimit op.swingCommand)

/-- The clamp reduced the swing command (R113, R114). -/
def State.swingReduced (s : State) (op : Op) : Bool :=
  decide ((s.swingClamped op).natAbs < op.swingCommand.natAbs)

/-- The evaluations of the stage, forced or not (R101, R109, R114, R117). -/
def State.swingEvaluations (s : State) (op : Op) : List (AlarmId × Bool) :=
  if s.swingForced op then
    (idSwingGuard, false) ::
      (if (s.axis .swing).isFresh && s.pageValid s.activePage then [(idSectorViolation, s.insideBlocking)] else [])
  else
    [ (idSectorViolation, s.insideBlocking)
      , (idSwingGuard, !s.insideBlocking && s.swingReduced op) ]

/-- What the swing stage hands on in the operation (R117). -/
def State.swingResult (s : State) (op : Op) : Op :=
  if s.swingForced op then { op with stage := .assembly, swingRef := 0, swingBrake := true, swingLimited := false }
  else
    { op with
      stage := .assembly
      swingRef := slewFrom s.gov.baseSwing (derateBy (s.swingClamped op) op.derate) (proSwingSlew.read s.profileWords)
      swingBrake := false
      swingLimited := s.swingReduced op }

/-- The swing stage of an operation (R100). -/
def State.swingStage (s : State) (op : Op) (order : List Nat) : State :=
  let s1 := s.evaluateAll (arrange order (s.swingEvaluations op))
  s1.setGov { s1.gov with op := some (s.swingResult op) }

/-- SWING_STAGE. -/
def swingStage (order : List Nat) (s : State) : State :=
  s.atWork fun s =>
    match s.gov.op with
    | none => s
    | some op => if op.stage = .swing then (s.swingStage op order).settle else s

/-- SWING_STAGE. -/
def execSwingStage (order : List Nat) (s : State) : Host.Outcome State Fault Refusal := .next (swingStage order s)

end Sys2Proof.Machine
end

