-- ==== Sys2Proof/Machine/Operation.lean ====
section
/-! DEFINITION. The start and the end of a reference operation: REFERENCE_OPERATION, CYCLE_TIMER_EXPIRY, ASSEMBLY
(R62 to R68, R72 to R75). -/

namespace Sys2Proof.Machine

/-- The inputs of an operation (R62, R64). -/
structure OpInputs where
  hoist     : Int
  drag      : Int
  swing     : Int
  walk      : WalkRequest
  profile   : Word
  brake     : Bool
  generated : Bool
deriving DecidableEq, Repr

/-- The inputs a REF's six payload words give (R62). -/
def inputsOfRef (ws : List Word) : OpInputs :=
  { hoist := saturate (ws.getD 0 0)
    drag := saturate (ws.getD 1 0)
    swing := saturate (ws.getD 2 0)
    walk := walkRequestOf (ws.getD 3 0)
    profile := ws.getD 4 0
    brake := flagBit (ws.getD 5 0) 0
    generated := false }

/-- The inputs of a generated operation (R64). -/
def generatedInputs : OpInputs :=
  { hoist := 0, drag := 0, swing := 0, walk := .none, profile := noneWord, brake := false, generated := true }

/-- The start of an operation: it reads the mode and the derate in force once (R66) and runs the walk stage (R68),
after which the edge memory takes the walk request (R67). -/
def State.startOperation (s : State) (x : OpInputs) (order : List Nat) : State :=
  let (s1, session, walkRef) := s.walkStage s.mode x.walk order
  let op : Op :=
    { stage := .rope, generated := x.generated
      hoistCommand := x.hoist, dragCommand := x.drag, swingCommand := x.swing
      profileRequest := x.profile, brakeRequest := x.brake
      mode := s.mode, derate := s.derate, session := session, walkRef := walkRef
      hoistRef := 0, dragRef := 0, hoistLimited := false, dragLimited := false
      swingRef := 0, swingBrake := false, swingLimited := false }
  s1.setGov { s1.gov with op := some op, edge := x.walk }

/-- REFERENCE_OPERATION: the Governor, with no operation in progress and no generated operation waiting before it,
takes the REF that waits at the Router (R62, R65). -/
def referenceOperation (order : List Nat) (s : State) : State :=
  s.atWork fun s =>
    match s.gov.op, s.links.waitingRef with
    | none, some f =>
      if s.gov.genWaiting then s
      else
        ((s.setLinks { s.links with waitingRef := none }).startOperation (inputsOfRef f.words) order).settle
    | _, _ => s

/-- The cycle timer is due (R63). -/
def State.cycleDue (s : State) : Bool := s.gov.cycleTimer.any fun start => s.due start s.cyclePeriod

/-- The expiry itself: the timer restarts from now and a generated operation is started, which waits until the
Governor takes it (R63, R65, notes/assumptions/22.md). -/
def State.cycleExpire (s : State) : State :=
  if s.cycleDue then s.setGov { s.gov with cycleTimer := some s.now, genWaiting := true } else s

/-- CYCLE_TIMER_EXPIRY: the expiry, if the timer is due, and the waiting generated operation, if the Governor has no
operation in progress (R63, R64, R65). -/
def cycleTimerExpiry (order : List Nat) (s : State) : State :=
  s.atWork fun s =>
    let s1 := s.cycleExpire
    match s1.gov.op with
    | some _ => s1
    | none =>
      if s1.gov.genWaiting then
        ((s1.setGov { s1.gov with genWaiting := false }).startOperation generatedInputs order).settle
      else s1

/-- The payload of the outgoing REF (R72, R188). -/
def State.refWords (s : State) (op : Op) : List Word :=
  [ wordOf op.hoistRef, wordOf op.dragRef, wordOf op.swingRef, wordOf op.walkRef
    , governorFlags op, wordOfNat s.store.active, wordOfNat op.derate ]

/-- The Governor after assembly: the slew baselines take the references produced (R74), the published flags are
replaced (R75), and the operation has ended (R65). -/
def Governor.afterAssembly (g : Governor) (op : Op) : Governor :=
  { g with
    baseHoist := op.hoistRef, baseDrag := op.dragRef, baseSwing := op.swingRef, baseWalk := op.walkRef
    flags := governorFlags op, op := none }

/-- ASSEMBLY: the outgoing REF is built and placed in the D-port transmit queue (R14, R72). -/
def assembly (s : State) : State :=
  s.atWork fun s =>
    match s.gov.op with
    | none => s
    | some op =>
      if op.stage = .assembly then
        (s.placeRef (composeFrame kindRef 0 (s.refWords op))).setGov (s.gov.afterAssembly op)
      else s

/-- REFERENCE_OPERATION. -/
def execReferenceOperation (order : List Nat) (s : State) : Host.Outcome State Fault Refusal :=
  .next (referenceOperation order s)

/-- CYCLE_TIMER_EXPIRY. -/
def execCycleTimerExpiry (order : List Nat) (s : State) : Host.Outcome State Fault Refusal :=
  .next (cycleTimerExpiry order s)

/-- ASSEMBLY. -/
def execAssembly (s : State) : Host.Outcome State Fault Refusal := .next (assembly s)

end Sys2Proof.Machine
end

