-- ==== Sys2Proof/Machine/Timers.lean ====
section
/-! DEFINITION. The timers and the time base: FEEDBACK_TIMER_EXPIRY, WATCHDOG_EXPIRY, TIME_BASE_ADVANCE (R20, R22, R32,
R46, R137, R174, R178). -/

namespace Sys2Proof.Machine

/-- A feedback timer expires (R32): STALE, the timer restarted; the walk axis is lost at the moment WALK leaves FRESH
(R137), then STALE_x is evaluated present (notes/assumptions/19.md). -/
def State.axisExpires (s : State) (a : Axis) : State :=
  let r := s.axis a
  let s1 := s.setAxis a { r with state := .stale, timer := some s.now, overtaken := none }
  let s2 := if a = .walk ∧ r.state = .fresh then s1.walkAxisLost else s1
  s2.evaluate (idStale a) true

/-- The present evaluation of an expiry that a good sample overtook at this moment: it reaches the status record of STALE_x
after the sample's absent one and counts 1 (R155), and leaves the axis FRESH with the timer that the sample restarted
(R33, R139). DEDUCED, the model's reading of the rules together: notes/assumptions/30.md. -/
def State.overtakenExpires (s : State) (a : Axis) : State :=
  (s.setAxis a { s.axis a with overtaken := none }).evaluate (idStale a) true

/-- FEEDBACK_TIMER_EXPIRY: acts when the axis's timer runs and is due (R32), or was due at this moment before a good sample
restarted it (R155); where the sender sends none after such a sample, no evaluation is made (R33). -/
def feedbackTimerExpiry (a : Axis) (s : State) : State :=
  s.atWork fun s =>
    if s.feedbackDue a then (s.axisExpires a).settle
    else if s.feedbackOvertaken a then (s.overtakenExpires a).settle
    else s

/-- The watchdog is RUNNING and its period in force has passed (R18). -/
def State.watchdogDue (s : State) : Bool :=
  match s.links.watchdog with
  | .running start => s.due start s.referenceTimeout
  | .expired => false

/-- The watchdog expires (R20): the cycle timer starts, the edge memory becomes NONE, LINK_UP_LOST is evaluated
present. -/
def State.watchdogExpires (s : State) : State :=
  let s1 := s.setLinks { s.links with watchdog := .expired }
  (s1.setGov { s1.gov with cycleTimer := some s.now, edge := .none }).evaluate idLinkUpLost true

/-- WATCHDOG_EXPIRY: acts when the watchdog is due. -/
def watchdogExpiry (s : State) : State :=
  s.atWork fun s => if s.watchdogDue then s.watchdogExpires.settle else s

/-- A validation in progress reads its next 64 words (R46). -/
def CheckRun.advance (v : CheckRun) (m : Memory) : CheckRun :=
  let n := min Config.wordsPerAdvance (v.page.size - v.next)
  { v with next := v.next + n, reg := crcOver m v.page.size v.next n v.reg }

/-- The Management Unit at an advance of the time base (R46). -/
def State.validationAdvance (s : State) : MgmtUnit :=
  match s.mgmt.unit with
  | .validating v => .validating (v.advance (s.page v.page).words)
  | .free => .free
  | .replying words restart => .replying words restart
  | .restartPlaced => .restartPlaced

/-- The time base one millisecond on, wrapping (R22). -/
def State.tick (s : State) : State := s.setImage { s.image with timeBase := s.image.timeBase + 1 }

/-- TIME_BASE_ADVANCE (R22): at work the validation in progress reads on (R46), the scan becomes due (R57) and the HORN
line follows the envelopes (R174); while a commanded restart is in effect the count runs on and the restart may end
(R178). The time base stands still in a power-on or pin reset (R22) and while CLK is stopped (R192). -/
def timeBaseAdvance (s : State) : State :=
  if s.clk then
    match s.phase with
    | .working =>
      let s1 := s.tick.setMgmt { s.mgmt with unit := s.validationAdvance }
      State.drive (s1.setStore { s1.store with scanDue := s1.store.scan.isSome && decide (s1.mode ≠ .loading) })
    | .restarting _ => { s.tick with phase := .restarting true }
    | .resetting _ => s
    | .off => s
  else s

/-- FEEDBACK_TIMER_EXPIRY. -/
def execFeedbackTimerExpiry (a : Axis) (s : State) : Host.Outcome State Fault Refusal := .next (feedbackTimerExpiry a s)

/-- WATCHDOG_EXPIRY. -/
def execWatchdogExpiry (s : State) : Host.Outcome State Fault Refusal := .next (watchdogExpiry s)

/-- TIME_BASE_ADVANCE. -/
def execTimeBaseAdvance (s : State) : Host.Outcome State Fault Refusal := .next (timeBaseAdvance s)

end Sys2Proof.Machine
end

