-- ==== Sys2Proof/Machine/TableStore.lean ====
section
/-! DEFINITION. The background integrity scan and the end of a validation: SCAN_ADVANCE and VALIDATION_COMPLETE (R46 to
R49, R57 to R59). -/

namespace Sys2Proof.Machine

/-! ### The background scan -/

/-- The end of a pass (R57, R58): the next pass begins from CONFIG at the following advance, and TABLE_CORRUPT is
evaluated absent unless a covered page is FAILED. -/
def State.passEnds (s : State) : State :=
  let s1 := s.setStore { s.store with scan := some passStart }
  if s.covered.any fun id => decide ((s.page id).state = .failed) then s1 else s1.evaluate idTableCorrupt false

/-- A comparison that fails (R58): the page goes to FAILED, its users change and the pass restarts at that moment, then
TABLE_CORRUPT is evaluated present (notes/assumptions/18.md). -/
def State.scanMismatch (s : State) (id : PageId) : State :=
  (s.setPageState id .failed).evaluate idTableCorrupt true

/-- The scan's reading of one advance: `budget` words of the pages still to be read, from word `next` of the first of
them with the register `reg`; a page that is not VALID is passed over (R57). -/
def State.scanPages (s : State) : List PageId → Nat → Word → Nat → State
  | [], _, _, _ => s.passEnds
  | id :: rest, next, reg, budget =>
    if !s.pageValid id then s.scanPages rest 0 crcInit budget
    else if budget = 0 then s.setStore { s.store with scan := some ⟨id, next, reg⟩ }
    else
      let m := (s.page id).words
      let n := min budget (id.size - next)
      let reg := crcOver m id.size next n reg
      if next + n < id.size then s.setStore { s.store with scan := some ⟨id, next + n, reg⟩ }
      else if checkWordPasses m id reg then s.scanPages rest 0 crcInit (budget - n)
      else s.scanMismatch id

/-- The covered pages from the page in hand on (R57). -/
def State.pagesFrom (s : State) (id : PageId) : List PageId := s.covered.dropWhile fun x => decide (x ≠ id)

/-- SCAN_ADVANCE (R57): the scan takes the advance of the time base that has come, in RUN and HALT. -/
def scanAdvance (s : State) : State :=
  s.atWork fun s =>
    match s.store.scan with
    | none => s
    | some pos =>
      if s.store.scanDue ∧ s.mode ≠ .loading then
        let s1 := s.setStore { s.store with scanDue := false }
        (s1.scanPages (s1.pagesFrom pos.page) pos.next pos.reg Config.wordsPerAdvance).settle
      else s

/-! ### The end of a validation -/

/-- The request code of VALIDATE (R188). -/
def codeValidate : Nat := 5

/-- The words of a reply: the request code, the status code, the data (R182). -/
def replyWords (code : Nat) (status : StatusCode) (data : List Word) : List Word :=
  wordOfNat code :: wordOfNat status.code :: data

/-- The outcome of a completed validation (R47, R48, R49): the page's state, the reply's status and data. -/
def State.validationOutcome (s : State) (v : CheckRun) : PageState × StatusCode × List Word :=
  let m := (s.page v.page).words
  if !checkWordPasses m v.page v.reg then (.written, .checkFailed, [])
  else
    match failingField s.station m v.page with
    | some off => (.written, .structureFailed, [wordOfNat off])
    | none => (.valid, .ok, [])

/-- VALIDATION_COMPLETE (R49): the last word has been read; the page takes the state of the outcome, its users change,
and the reply is fixed. -/
def validationComplete (s : State) : State :=
  s.atWork fun s =>
    match s.mgmt.unit with
    | .validating v =>
      if v.page.size ≤ v.next then
        let (st, status, data) := s.validationOutcome v
        let s1 := s.setPageState v.page st
        State.settle (s1.setMgmt { s1.mgmt with unit := .replying (replyWords codeValidate status data) false })
      else s
    | .free => s
    | .replying _ _ => s
    | .restartPlaced => s

/-- SCAN_ADVANCE. -/
def execScanAdvance (s : State) : Host.Outcome State Fault Refusal := .next (scanAdvance s)

/-- VALIDATION_COMPLETE. -/
def execValidationComplete (s : State) : Host.Outcome State Fault Refusal := .next (validationComplete s)

end Sys2Proof.Machine
end

