-- ==== Sys2Proof/Machine/Requests.lean ====
section
/-! DEFINITION. The Management Unit's service of a request (R180 to R182): taking the head request, the tests every
request passes, and fixing its reply. The fifteen requests and UNKNOWN_REQUEST stand in ModeRequests.lean,
PageRequests.lean, AlarmRequests.lean and ReportRequests.lean. -/

namespace Sys2Proof.Machine

/-- The reply of a request that needs nothing more than its placing (R180). -/
def answer (code : Nat) (status : StatusCode) (data : List Word) : MgmtUnit :=
  .replying (replyWords code status data) false

/-- The head request the Management Unit takes next: it is FREE and the queue is not empty (R180). -/
def State.headRequest (s : State) : Option Frame :=
  match s.mgmt.unit with
  | .free => s.mgmt.queue.head?
  | .validating _ => none
  | .replying _ _ => none
  | .restartPlaced => none

/-- The request code of a request, none of an empty payload (R181). -/
def requestCode (f : Frame) : Option Nat := f.words.head?.map (·.toNat)

/-- The request leaves the queue as it is taken into service (R179, R180). -/
def State.takeRequest (s : State) : State := s.setMgmt { s.mgmt with queue := s.mgmt.queue.tail }

/-- The outcome of the service: what the Management Unit is BUSY with afterwards. -/
def State.busyWith (s : State) (u : MgmtUnit) : State := s.setMgmt { s.mgmt with unit := u }

/-- The service of the request with code `code`: the head request is taken; with a number of arguments the catalogue
does not allow it is answered BAD_ARGUMENT (R181), else the owner's rule decides. When the head request is not one
of this code, the service is not taken. -/
def State.serve (s : State) (code : Nat) (allowed : Nat → Bool)
    (owner : List Word → State → State × MgmtUnit) : State :=
  s.atWork fun s =>
    match s.headRequest with
    | none => s
    | some f =>
      if requestCode f = some code then
        let s1 := s.takeRequest
        let args := f.words.tail
        if allowed args.length then
          let (s2, unit) := owner args s1
          (s2.busyWith unit).settle
        else (s1.busyWith (answer code .badArgument [])).settle
      else s

/-- Exactly `n` argument words (R188). -/
def exactly (n : Nat) (k : Nat) : Bool := k == n

/-- CONFIG, ALARM, WALK and the active profile's page are VALID (R166, R169). -/
def State.pagesReady (s : State) : Bool := s.covered.all fun id => s.pageValid id

/-! ### UNKNOWN_REQUEST (R181) -/

/-- The request codes of the catalogue: 0x01 to 0x0F (R188). -/
def inCatalogue (code : Nat) : Bool := 1 ≤ code && code ≤ 15

/-- A request with no request code is answered with the code 0 echoed; one with a code outside the catalogue with
its code (R181). -/
def unknownRequest (s : State) : State :=
  s.atWork fun s =>
    match s.headRequest with
    | none => s
    | some f =>
      match requestCode f with
      | none => (s.takeRequest.busyWith (answer 0 .unknownRequest [])).settle
      | some code =>
        if inCatalogue code then s else (s.takeRequest.busyWith (answer code .unknownRequest [])).settle

/-- UNKNOWN_REQUEST. -/
def execUnknownRequest (s : State) : Host.Outcome State Fault Refusal := .next (unknownRequest s)

end Sys2Proof.Machine
end

