-- ==== Sys2Proof/Machine/AlarmRequests.lean ====
section
/-! DEFINITION. The requests about alarms: ACK_ALARM, READ_ALARMS, READ_ALARM_STATUS, FORCE (R154, R159, R160, R162,
R163). -/

namespace Sys2Proof.Machine

/-- The alarm ID a number names. -/
def alarmIdOf (n : Nat) : Option AlarmId := if h : n < 24 then some ⟨n, h⟩ else none

/-- ACK_ALARM (R154): the reply carries the entries acknowledged and the entries removed. -/
def ownAckAlarm (args : List Word) (s : State) : State × MgmtUnit :=
  let ack := fun (l : List Entry) =>
    let (s1, n, k) := s.ackAll l
    (s1, answer 10 .ok [wordOfNat n, wordOfNat k])
  let arg := (args.getD 0 0).toNat
  if arg = 255 then ack s.alarm.list
  else
    match (alarmIdOf arg).bind fun i => s.entry? i with
    | some e => ack [e]
    | none => (s, answer 10 .badArgument [])

/-- One entry as READ_ALARMS reports it (R162, R188). -/
def State.entryWords (s : State) (e : Entry) : List Word :=
  [wordOfNat e.id, entryAttributes e (s.status e.id), wordOfNat e.factor] ++ wordsOfTime e.raised

/-- READ_ALARMS (R162). -/
def ownReadAlarms (args : List Word) (s : State) : State × MgmtUnit :=
  let start := (args.getD 0 0).toNat
  if start ≤ 23 then
    (s, answer 11 .ok (wordOfNat s.alarm.list.length :: ((s.alarm.list.drop start).take 10).flatMap s.entryWords))
  else (s, answer 11 .badArgument [])

/-- One status record as READ_ALARM_STATUS reports it (R163, R188). -/
def State.statusWords (s : State) (i : AlarmId) : List Word :=
  let st := s.status i
  [ofBytes st.occurred (statusFlags st (s.entry? i).isSome), ofBytes st.count st.rearm, st.lastRaise.setWidth 16]

/-- READ_ALARM_STATUS (R163). -/
def ownReadAlarmStatus (args : List Word) (s : State) : State × MgmtUnit :=
  let first := (args.getD 0 0).toNat
  let n := (args.getD 1 0).toNat
  if first ≤ 23 ∧ 1 ≤ n ∧ n ≤ 16 ∧ first + n ≤ 24 then
    (s, answer 12 .ok (((List.finRange 24).drop first |>.take n).flatMap s.statusWords))
  else (s, answer 12 .badArgument [])

/-- FORCE on (R160): the flag is set, a report is owed if it was clear, and one present evaluation is made. -/
def State.forceOn (s : State) (i : AlarmId) : State :=
  let st := s.status i
  (s.setStatus i { st with forced := true, report := st.report || !st.forced }).evaluate i true

/-- FORCE off (R160): the flag is cleared, a report is owed if it was set; no evaluation. -/
def State.forceOff (s : State) (i : AlarmId) : State :=
  let st := s.status i
  s.setStatus i { st with forced := false, report := st.report || st.forced }

/-- FORCE (R159, R160). -/
def ownForce (args : List Word) (s : State) : State × MgmtUnit :=
  let setting := (args.getD 1 0).toNat
  match alarmIdOf (args.getD 0 0).toNat with
  | none => (s, answer 13 .badArgument [])
  | some i =>
    if fixedId i ∨ 1 < setting then (s, answer 13 .badArgument [])
    else if s.mode = .run then (s, answer 13 .wrongMode [])
    else (if setting = 1 then s.forceOn i else s.forceOff i, answer 13 .ok [])

/-- ACK_ALARM. -/
def execAckAlarm (s : State) : Host.Outcome State Fault Refusal := .next (s.serve 10 (exactly 1) ownAckAlarm)

/-- READ_ALARMS. -/
def execReadAlarms (s : State) : Host.Outcome State Fault Refusal := .next (s.serve 11 (exactly 1) ownReadAlarms)

/-- READ_ALARM_STATUS. -/
def execReadAlarmStatus (s : State) : Host.Outcome State Fault Refusal :=
  .next (s.serve 12 (exactly 2) ownReadAlarmStatus)

/-- FORCE. -/
def execForce (s : State) : Host.Outcome State Fault Refusal := .next (s.serve 13 (exactly 2) ownForce)

end Sys2Proof.Machine
end

