-- ==== Sys2Proof/Machine/ModeRequests.lean ====
section
/-! DEFINITION. The requests that change the mode: GO, HALT, RESUME, RESTART (R161, R165 to R169, R177). -/

namespace Sys2Proof.Machine

/-- The mode becomes RUN and every forced flag is cleared (R161, R166, R169). -/
def State.enterRun (s : State) : State := State.clearForced (s.setAlarm { s.alarm with mode := .run })

/-- GO (R166): an accepted one also starts the scan's first pass at the next advance (R57). -/
def ownGo (_args : List Word) (s : State) : State × MgmtUnit :=
  if s.mode ≠ .loading then (s, answer 6 .wrongMode [])
  else if !s.pagesReady then (s, answer 6 .notValid [])
  else if s.hasStop then (s, answer 6 .blocked [])
  else (s.enterRun.setStore { s.store with scan := some passStart, scanDue := false }, answer 6 .ok [])

/-- HALT (R167). -/
def ownHalt (_args : List Word) (s : State) : State × MgmtUnit := (s.enterHalt, answer 7 .ok [])

/-- RESUME (R169). -/
def ownResume (_args : List Word) (s : State) : State × MgmtUnit :=
  if s.mode ≠ .halt then (s, answer 8 .wrongMode [])
  else if s.hasStop then (s, answer 8 .blocked [])
  else if (s.status idLinkUpLost).condition then (s, answer 8 .blocked [])
  else if !s.pagesReady then (s, answer 8 .notValid [])
  else (s.enterRun, answer 8 .ok [])

/-- RESTART (R177): an accepted one stays in service until the commanded restart ends. -/
def ownRestart (_args : List Word) (s : State) : State × MgmtUnit :=
  if s.mode = .run then (s, answer 9 .wrongMode [])
  else if s.walk.state ≠ .idle then (s, answer 9 .blocked [])
  else (s, .replying (replyWords 9 .ok []) true)

/-- GO. -/
def execGo (s : State) : Host.Outcome State Fault Refusal := .next (s.serve 6 (exactly 0) ownGo)

/-- HALT. -/
def execHalt (s : State) : Host.Outcome State Fault Refusal := .next (s.serve 7 (exactly 0) ownHalt)

/-- RESUME. -/
def execResume (s : State) : Host.Outcome State Fault Refusal := .next (s.serve 8 (exactly 0) ownResume)

/-- RESTART. -/
def execRestart (s : State) : Host.Outcome State Fault Refusal := .next (s.serve 9 (exactly 0) ownRestart)

end Sys2Proof.Machine
end

