-- ==== Sys2Proof/Machine/PageRequests.lean ====
section
/-! DEFINITION. The requests about table pages: READ_PAGE, WRITE_PAGE, VALIDATE (R43 to R45, R186). -/

namespace Sys2Proof.Machine

/-- A page the mode holds: CONFIG, ALARM and WALK (R43 case 2). -/
def PageId.isTable : PageId → Bool
  | .config => true
  | .alarm => true
  | .walk => true
  | .profile _ => false

/-- The page is the active profile's or the pending profile's (R43 case 3). -/
def State.pageInUse (s : State) (id : PageId) : Bool :=
  decide (id = s.activePage) || (s.store.pendingProfile.map PageId.profile == some id)

/-- The cases 2 to 4 that refuse WRITE_PAGE and VALIDATE alike (R43, R45). -/
def State.pageGate (s : State) (id : PageId) : Option StatusCode :=
  if s.mode = .run ∧ id.isTable then some .wrongMode
  else if s.mode = .run ∧ s.pageInUse id then some .pageInUse
  else if (id = .config ∨ id = .walk) ∧ s.walk.state ≠ .idle then some .blocked
  else none

/-- READ_PAGE (R186). -/
def ownReadPage (args : List Word) (s : State) : State × MgmtUnit :=
  let off := (args.getD 1 0).toNat
  let n := (args.getD 2 0).toNat
  match pageOfId (args.getD 0 0).toNat with
  | none => (s, answer 3 .badArgument [])
  | some id =>
    if 1 ≤ n ∧ n ≤ 58 ∧ off + n ≤ id.size then (s, answer 3 .ok (Memory.slice (s.page id).words off n))
    else (s, answer 3 .badArgument [])

/-- The words stored and the page gone to WRITTEN (R44). -/
def State.writePage (s : State) (id : PageId) (off : Nat) (data : List Word) : State :=
  let p := s.page id
  State.setPageState (s.setStore (s.store.setPage id { p with words := Memory.writeFrom p.words off data })) id .written

/-- WRITE_PAGE (R43, R44). -/
def ownWritePage (args : List Word) (s : State) : State × MgmtUnit :=
  let off := (args.getD 1 0).toNat
  let data := args.drop 2
  match pageOfId (args.getD 0 0).toNat with
  | none => (s, answer 4 .badArgument [])
  | some id =>
    if 1 ≤ data.length ∧ data.length ≤ 56 ∧ off + data.length ≤ id.size then
      match s.pageGate id with
      | some code => (s, answer 4 code [])
      | none => (s.writePage id off data, answer 4 .ok [])
    else (s, answer 4 .badArgument [])

/-- VALIDATE (R45): an accepted one puts the page in VALIDATING and holds the unit until the validation completes. -/
def ownValidate (args : List Word) (s : State) : State × MgmtUnit :=
  match pageOfId (args.getD 0 0).toNat with
  | none => (s, answer codeValidate .badArgument [])
  | some id =>
    match s.pageGate id with
    | some code => (s, answer codeValidate code [])
    | none => (s.setPageState id .validating, .validating ⟨id, 0, crcInit⟩)

/-- READ_PAGE. -/
def execReadPage (s : State) : Host.Outcome State Fault Refusal := .next (s.serve 3 (exactly 3) ownReadPage)

/-- WRITE_PAGE takes at least 2 argument words (R188). -/
def execWritePage (s : State) : Host.Outcome State Fault Refusal := .next (s.serve 4 (2 ≤ ·) ownWritePage)

/-- VALIDATE. -/
def execValidate (s : State) : Host.Outcome State Fault Refusal :=
  .next (s.serve codeValidate (exactly 1) ownValidate)

end Sys2Proof.Machine
end

