-- ==== Sys2Proof/Machine/ReportRequests.lean ====
section
/-! DEFINITION. The requests that report and the one that clears counters: STATUS, READ_IMAGE, READ_WALK, CLEAR_COUNTERS
(R141, R184, R185, R187, R188). -/

namespace Sys2Proof.Machine

/-- The counters both ports keep, in the order of R188. -/
def counterWords (c : Counters) : List Word :=
  [c.good, c.badCheck, c.badLength, c.truncated, c.misdirected, c.overrun, c.txDrops]

/-- The port counters of both ports and the consecutive-bad counts, in the order of R188. -/
def State.linkWords (s : State) : List Word :=
  counterWords s.links.u.counters ++ counterWords s.links.d.counters ++ [s.links.superseded]
    ++ [s.links.u.consecBad.setWidth 16, s.links.d.consecBad.setWidth 16]

/-- A number that can be none (R188). -/
def optionWord (x : Option Nat) : Word :=
  match x with
  | some n => wordOfNat n
  | none => noneWord

/-- The highest severity of the list, none when it is empty (R184). -/
def highestSeverity (l : List Entry) : Option Nat := (l.map fun e => e.severity.code).max?

/-- The data of the STATUS reply (R184, R188). -/
def State.statusData (s : State) : List Word :=
  [ wordOfNat s.mode.code, wordOfNat s.alarm.resetCause.code, wordOfNat s.station, wordOfNat s.store.active
    , optionWord (s.store.pendingProfile.map Fin.val) ]
  ++ ([PageId.config, .alarm, .walk, .profile 0, .profile 1, .profile 2, .profile 3].map fun id =>
      wordOfNat (s.page id).state.code)
  ++ [ wordOfNat s.alarm.list.length, optionWord (highestSeverity s.alarm.list), wordOfNat s.derate
    , wordOfNat s.walk.state.code, wordOfNat s.walk.queue.length ]
  ++ wordsOfTime s.now ++ [s.mgmt.discards] ++ s.linkWords

/-- An axis record as READ_IMAGE reports it: absent fields and a sample time of none are 0 (R185, R188). -/
def axisWords (r : AxisRecord) : List Word :=
  [ ofBytes (BitVec.ofNat 8 r.station) (BitVec.ofNat 8 r.state.code), driveFlags r, wordOfNat r.position
    , wordOf r.speed, wordOfNat r.tension ]
  ++ wordsOfTime (r.sampleTime.getD 0) ++ [r.badSamples]

/-- The data of the READ_IMAGE reply (R185, R188). -/
def State.imageData (s : State) : List Word :=
  axisWords s.image.hoist ++ axisWords s.image.drag ++ axisWords s.image.swing ++ axisWords s.image.walk
  ++ wordsOfTime s.now
  ++ [ wordOfNat s.gov.zone.code, wordOfNat s.gov.insideGated.toNat, s.gov.flags, wordOf s.gov.baseHoist
    , wordOf s.gov.baseDrag, wordOf s.gov.baseSwing, wordOf s.gov.baseWalk ]
  ++ s.linkWords

/-- The words 3 to 20 of the SEQUENCER reply: 0 without a current step, but for words 9 and 20, which read none
(R188). A phase start time of none is sent as none in both words (notes/assumptions/17.md). -/
def currentWords : Option CurrentStep → List Word
  | none => List.replicate 6 0 ++ [noneWord] ++ List.replicate 10 0 ++ [noneWord]
  | some c =>
    [wordOfNat c.record.direction.code, wordOfNat c.record.steer] ++ wordsOfTime c.record.requestTime
      ++ wordsOfTime c.start ++ [optionWord (c.phase.map CamPhase.code)]
      ++ (match c.phaseStart with
          | some t => wordsOfTime t
          | none => [noneWord, noneWord])
      ++ wordsOfTime c.p1 ++ wordsOfTime c.p2 ++ wordsOfTime c.p3 ++ wordsOfTime c.p4
      ++ [optionWord (c.cause.map SetdownCause.code)]

/-- A queued step record (R188). -/
def stepWords (r : StepRecord) : List Word :=
  [wordOfNat r.direction.code, wordOfNat r.steer] ++ wordsOfTime r.requestTime

/-- The data of the SEQUENCER reply (R141, R188). -/
def State.sequencerData (s : State) : List Word :=
  [wordOfNat s.walk.state.code, optionWord s.walk.lockAngle, s.walk.queueFull] ++ currentWords s.walk.current
  ++ [wordOfNat s.walk.queue.length] ++ s.walk.queue.flatMap stepWords

/-- A history record (R188). -/
def historyWords (r : HistoryRecord) : List Word :=
  [wordOfNat r.direction.code, wordOfNat r.steer, wordOfNat r.result.code] ++ wordsOfTime r.start
  ++ wordsOfTime r.p1 ++ wordsOfTime r.p2 ++ wordsOfTime r.p3 ++ wordsOfTime r.p4

/-- The data of the HISTORY reply: at most 4 records from the start index upward (R141, R188). -/
def State.historyData (s : State) (start : Nat) : List Word :=
  wordOfNat s.walk.history.length :: ((s.walk.history.drop start).take 4).flatMap historyWords

/-- STATUS (R184). -/
def ownStatus (_args : List Word) (s : State) : State × MgmtUnit := (s, answer 1 .ok s.statusData)

/-- READ_IMAGE (R185). -/
def ownReadImage (_args : List Word) (s : State) : State × MgmtUnit := (s, answer 2 .ok s.imageData)

/-- READ_WALK (R141): part 0 SEQUENCER, its second word not read; part 1 HISTORY with a start index 0..7. -/
def ownReadWalk (args : List Word) (s : State) : State × MgmtUnit :=
  match args with
  | [] => (s, answer 14 .badArgument [])
  | part :: more =>
    if part.toNat = 0 then (s, answer 14 .ok s.sequencerData)
    else if part.toNat = 1 then
      match more with
      | [] => (s, answer 14 .badArgument [])
      | start :: _ =>
        if start.toNat ≤ 7 then (s, answer 14 .ok (s.historyData start.toNat)) else (s, answer 14 .badArgument [])
    else (s, answer 14 .badArgument [])

/-- CLEAR_COUNTERS (R17, R187): the consecutive-bad counts, bad-sample counters and occurrence counts are kept. -/
def ownClearCounters (_args : List Word) (s : State) : State × MgmtUnit :=
  let s1 := s.setLinks { s.links with
    u := { s.links.u with counters := Counters.zero }
    d := { s.links.d with counters := Counters.zero }
    superseded := 0 }
  let s2 := s1.setWalk { s1.walk with queueFull := 0 }
  (s2.setMgmt { s2.mgmt with discards := 0 }, answer 15 .ok [])

/-- STATUS. -/
def execStatus (s : State) : Host.Outcome State Fault Refusal := .next (s.serve 1 (exactly 0) ownStatus)

/-- READ_IMAGE. -/
def execReadImage (s : State) : Host.Outcome State Fault Refusal := .next (s.serve 2 (exactly 0) ownReadImage)

/-- READ_WALK takes 1 or 2 argument words (R188). -/
def execReadWalk (s : State) : Host.Outcome State Fault Refusal :=
  .next (s.serve 14 (fun n => n == 1 || n == 2) ownReadWalk)

/-- CLEAR_COUNTERS. -/
def execClearCounters (s : State) : Host.Outcome State Fault Refusal :=
  .next (s.serve 15 (exactly 0) ownClearCounters)

end Sys2Proof.Machine
end

