-- ==== Sys2Proof/Machine/Router.lean ====
section
/-! DEFINITION. The Frame Router and the Machine Image's samples: ROUTE_U_FRAME and ROUTE_D_FRAME (R10, R11, R14, R16,
R19, R27 to R31, R65, R179). -/

namespace Sys2Proof.Machine

/-! ### The U-port side -/

/-- A frame discarded on its KIND or STATION (R10, R11). -/
def State.misdirected (s : State) (p : Port) : State :=
  s.count p fun c => { c with misdirected := bump c.misdirected }

/-- An MREQ for the part is offered to the management request queue (R179). -/
def State.offerRequest (s : State) (f : Frame) : State :=
  if s.mgmt.queue.length < Config.requestCapacity then s.setMgmt { s.mgmt with queue := s.mgmt.queue ++ [f] }
  else s.setMgmt { s.mgmt with discards := bump s.mgmt.discards }

/-- A valid REF is taken by the Router: it is handed to the Governor, restarts the watchdog, stops the cycle timer
and evaluates LINK_UP_LOST absent (R10, R19, R63). -/
def State.takeRef (s : State) (f : Frame) : State :=
  let s1 := s.setLinks { s.links with watchdog := .running s.now, waitingRef := some f }
  (s1.setGov { s1.gov with cycleTimer := none }).evaluate idLinkUpLost false

/-- The Router's classification of a U-port frame (R10). -/
def State.routeUp (s : State) (f : Frame) : State :=
  if f.kind = kindRef then
    if f.station = 0 then s.takeRef f else s.misdirected .u
  else if f.kind = kindMreq then
    if f.station.toNat = s.station then s.offerRequest f else s.offerForward .d f
  else s.misdirected .u

/-- ROUTE_U_FRAME: the Router takes the oldest frame of the U-port receive queue, once its handling of the frame
before is complete (R9, R65). -/
def routeUFrame (s : State) : State :=
  s.atWork fun s =>
    match s.links.waitingRef, (s.port .u).rxQueue with
    | none, f :: rest => ((s.setPort .u { s.port .u with rxQueue := rest }).routeUp f).settle
    | _, _ => s

/-! ### Samples (R27 to R31) -/

/-- The values of a feedback sample. -/
structure Sample where
  position : Nat
  speed    : Int
  tension  : Nat
  fault    : Bool
  brakeSet : Bool
deriving DecidableEq, Repr

/-- The axis a station is mapped to, while a station map is in force (R27). -/
def State.axisOfStation (s : State) (station : Nat) : Option Axis :=
  if s.pageValid .config then
    [Axis.hoist, .drag, .swing, .walk].find? fun a =>
      decide ((s.axis a).state ≠ .unmapped) && decide ((s.axis a).station = station)
  else none

/-- A rope sample, if it passes every check (R28). -/
def ropeSample : List Word → Option Sample
  | [pos, spd, ten, fl] =>
    if pos.toNat ≤ 65000 ∧ spd.toInt.natAbs ≤ 1000 ∧ ten.toNat ≤ 10000 then
      some ⟨pos.toNat, spd.toInt, ten.toNat, flagBit fl 0, flagBit fl 1⟩
    else none
  | _ => none

/-- A swing sample, if it passes every check (R28). -/
def swingSampleOf : List Word → Option Sample
  | [pos, spd, fl] =>
    if pos.toNat ≤ 35999 ∧ spd.toInt.natAbs ≤ 3000 then
      some ⟨pos.toNat, spd.toInt, 0, flagBit fl 0, flagBit fl 1⟩
    else none
  | _ => none

/-- A walk sample, if it passes every check (R28). -/
def walkSampleOf : List Word → Option Sample
  | [pos, fl] => if pos.toNat ≤ 35999 then some ⟨pos.toNat, 0, 0, flagBit fl 0, flagBit fl 1⟩ else none
  | _ => none

/-- The checks of R28 for an axis. -/
def sampleOf (a : Axis) (ws : List Word) : Option Sample :=
  match a with
  | .hoist => ropeSample ws
  | .drag => ropeSample ws
  | .swing => swingSampleOf ws
  | .walk => walkSampleOf ws

/-- Items 1 to 4 of R30, the moment of the sample and whether it is one at which the expiry was due. -/
def AxisRecord.accept (r : AxisRecord) (x : Sample) (now : Time) (due : Bool) : AxisRecord :=
  { r with
    state := .fresh, position := x.position, speed := x.speed, tension := x.tension
    fault := x.fault, brakeSet := x.brakeSet, sampleTime := some now, timer := some now
    overtaken := if due then some now else none }

/-- A good sample (R30), handed on to the Walk Sequencer when it belongs to WALK or SWING (R31). It makes its axis FRESH
also before the first operation after a reset, where R118 has SWING not FRESH (notes/assumptions/31.md). -/
def State.goodSample (s : State) (a : Axis) (x : Sample) (order : List Nat) : State :=
  let s1 := s.setAxis a ((s.axis a).accept x s.now (s.feedbackDue a || s.feedbackOvertaken a))
  let s2 := s1.evaluateAll (arrange order [(idStale a, false), (idDriveFault a, x.fault)])
  match a with
  | .walk => s2.walkSample
  | .swing => s2.swingSample
  | .hoist => s2
  | .drag => s2

/-- A bad sample (R29). -/
def State.badSample (s : State) (a : Axis) : State :=
  s.setAxis a { s.axis a with badSamples := bump (s.axis a).badSamples }

/-- A feedback sample at the Machine Image (R27). -/
def State.takeSample (s : State) (f : Frame) (order : List Nat) : State :=
  match s.axisOfStation f.station.toNat with
  | none => s
  | some a =>
    match sampleOf a f.words with
    | some x => s.goodSample a x order
    | none => s.badSample a

/-- The Router's classification of a D-port frame (R11, R16). The Machine Image's hand-over and the offer upward
have no order between them; `upFirst` says which is taken first. When the Machine Image is first, what becomes
waiting there claims its slots before the offer (R16). -/
def State.routeDown (s : State) (f : Frame) (upFirst : Bool) (order : List Nat) : State :=
  if f.kind = kindFbk then
    if upFirst then ((s.offerForward .u f).takeSample f order).settle
    else (((s.takeSample f order).settle).offerForward .u f).settle
  else if f.kind = kindMrep then (s.offerForward .u f).settle
  else s.misdirected .d

/-- ROUTE_D_FRAME: the Router takes the oldest frame of the D-port receive queue. -/
def routeDFrame (upFirst : Bool) (order : List Nat) (s : State) : State :=
  s.atWork fun s =>
    match (s.port .d).rxQueue with
    | [] => s
    | f :: rest => (s.setPort .d { s.port .d with rxQueue := rest }).routeDown f upFirst order

/-- ROUTE_U_FRAME. -/
def execRouteUFrame (s : State) : Host.Outcome State Fault Refusal := .next (routeUFrame s)

/-- ROUTE_D_FRAME. -/
def execRouteDFrame (upFirst : Bool) (order : List Nat) (s : State) : Host.Outcome State Fault Refusal :=
  .next (routeDFrame upFirst order s)

end Sys2Proof.Machine
end

