-- ==== Sys2Proof/Machine/Dispatch.lean ====
section
/-! DEFINITION. Which meaning each command has. -/

namespace Sys2Proof.Machine

def exec (i : Instr) (s : State) : Host.Outcome State Fault Refusal :=
  match i with
  | .frameStart p b => Sys2Proof.Machine.execFrameStart p b s
  | .badLength p bytes => Sys2Proof.Machine.execBadLength p bytes s
  | .frameComplete p bytes => Sys2Proof.Machine.execFrameComplete p bytes s
  | .truncated p bytes silenceNs => Sys2Proof.Machine.execTruncated p bytes silenceNs s
  | .routeUFrame => Sys2Proof.Machine.execRouteUFrame s
  | .routeDFrame upFirst order => Sys2Proof.Machine.execRouteDFrame upFirst order s
  | .feedbackTimerExpiry a => Sys2Proof.Machine.execFeedbackTimerExpiry a s
  | .transmitStart p => Sys2Proof.Machine.execTransmitStart p s
  | .transmitComplete p => Sys2Proof.Machine.execTransmitComplete p s
  | .watchdogExpiry => Sys2Proof.Machine.execWatchdogExpiry s
  | .cycleTimerExpiry order => Sys2Proof.Machine.execCycleTimerExpiry order s
  | .referenceOperation order => Sys2Proof.Machine.execReferenceOperation order s
  | .ropeStage order => Sys2Proof.Machine.execRopeStage order s
  | .swingStage order => Sys2Proof.Machine.execSwingStage order s
  | .assembly => Sys2Proof.Machine.execAssembly s
  | .scanAdvance => Sys2Proof.Machine.execScanAdvance s
  | .validationComplete => Sys2Proof.Machine.execValidationComplete s
  | .status => Sys2Proof.Machine.execStatus s
  | .readImage => Sys2Proof.Machine.execReadImage s
  | .readPage => Sys2Proof.Machine.execReadPage s
  | .writePage => Sys2Proof.Machine.execWritePage s
  | .validate => Sys2Proof.Machine.execValidate s
  | .go => Sys2Proof.Machine.execGo s
  | .halt => Sys2Proof.Machine.execHalt s
  | .resume => Sys2Proof.Machine.execResume s
  | .restart => Sys2Proof.Machine.execRestart s
  | .ackAlarm => Sys2Proof.Machine.execAckAlarm s
  | .readAlarms => Sys2Proof.Machine.execReadAlarms s
  | .readAlarmStatus => Sys2Proof.Machine.execReadAlarmStatus s
  | .force => Sys2Proof.Machine.execForce s
  | .readWalk => Sys2Proof.Machine.execReadWalk s
  | .clearCounters => Sys2Proof.Machine.execClearCounters s
  | .unknownRequest => Sys2Proof.Machine.execUnknownRequest s
  | .restartEnd => Sys2Proof.Machine.execRestartEnd s
  | .powerOnReset => Sys2Proof.Machine.execPowerOnReset s
  | .pinReset lowNs => Sys2Proof.Machine.execPinReset lowNs s
  | .resetEnd straps => Sys2Proof.Machine.execResetEnd straps s
  | .timeBaseAdvance => Sys2Proof.Machine.execTimeBaseAdvance s
  | .clockStop => Sys2Proof.Machine.execClockStop s
  | .clockRestart => Sys2Proof.Machine.execClockRestart s
  | .supplyLoss => Sys2Proof.Machine.execSupplyLoss s

end Sys2Proof.Machine
end

