-- ==== Sys2Proof/Safety.lean ====
section
/-! DEFINITION. What a safe state of the part is, as invariants over every step, and the vocabulary in which the
statements say what a command does: what an evaluation may change, what a request is answered, what stays. -/

namespace Sys2Proof.Machine

/-! ### What an event may change beside its own effect -/

/-- `t` with everything that an evaluation and the U-port arbiter can change put back as it stands in `s`: the Alarm
Unit, the Walk Sequencer (HALT entry), the Management Unit's wait, the U-port transmit queue and the pins. -/
def State.withAlarmsOf (t s : State) : State :=
  { t with
    pins := s.pins
    walk := s.walk
    alarm := s.alarm
    mgmt := { t.mgmt with unit := s.mgmt.unit }
    links := { t.links with u := { t.links.u with txQueue := s.links.u.txQueue } } }

/-- The report owed for an ID at `t` is still pending, or its ALM frame has been placed since `s` (R156, R158). -/
def Reported (s t : State) (i : AlarmId) : Prop :=
  (t.status i).report = true ∨
    ∃ x ∈ t.links.u.txQueue.drop s.links.u.txQueue.length, x.origin = .alarm ∧ x.frame.words.head? = some (wordOfNat i)

/-- An ID that an event whose evaluations name `ids` leaves alone. SWING_BRAKE_SLIP is also evaluated where HALT
entry ends a walk session (R140). -/
def untouchedId (ids : List AlarmId) (s t : State) (i : AlarmId) : Prop :=
  i ∉ ids ∧ (i = idBrakeSlip → t.mode = s.mode)

/-- From `s` to `t` an evaluation of the ID raised an entry of severity STOP (R151, R168). The entry of
SWING_BRAKE_SLIP may have left the list again, where the HALT entry it brought about ended a walk session (R140). -/
structure StopRaised (s t : State) (i : AlarmId) : Prop where
  before : s.entry? i = none
  raised : (t.status i).occurred = bump (s.status i).occurred ∧ (t.status i).lastRaise = s.now
  joined : (∃ e, t.entry? i = some e ∧ e.severity = .stop) ∨ (i = idBrakeSlip ∧ (s.definition i).severity = .stop)

/-- The Alarm Unit from `s` to `t` by evaluations of the IDs `ids`: the status records and entries of the other IDs
are unchanged (R143), but that a report pending may have been placed (R15); no pending report is lost (R158); the
reset cause is kept; the mode stays, or goes from RUN to HALT where an entry of severity STOP of one of these IDs, or of
SWING_BRAKE_SLIP, joined the list (R165, R168). -/
structure AlarmFrame (ids : List AlarmId) (s t : State) : Prop where
  status  : ∀ i, untouchedId ids s t i → { t.status i with report := (s.status i).report } = s.status i
  report  : ∀ i, untouchedId ids s t i → (t.status i).report = true → (s.status i).report = true
  entry   : ∀ i, untouchedId ids s t i → t.entry? i = s.entry? i
  owed    : ∀ i, (s.status i).report = true → Reported s t i
  cause   : t.alarm.resetCause = s.alarm.resetCause
  mode    : t.mode = s.mode
    ∨ (s.mode = .run ∧ t.mode = .halt ∧ ∃ i, (i ∈ ids ∨ i = idBrakeSlip) ∧ StopRaised s t i)

/-- The Walk Sequencer is untouched, or has taken HALT entry where the mode went to HALT (R136). -/
def WalkFollows (s t : State) : Prop :=
  t.walk = if t.mode = s.mode then s.walk else s.walk.haltEntry s.now

/-- The Management Unit is untouched, but that a reply that waited may have been placed (R15, R180). -/
def UnitFollows (s t : State) : Prop :=
  t.mgmt.unit = s.mgmt.unit ∨
    ∃ words restart, s.mgmt.unit = .replying words restart ∧ t.mgmt.unit = if restart then .restartPlaced else .free

/-- An event whose own effect is `u` (written over `s`, its Alarm Unit, Walk Sequencer, unit, U-port transmit queue
and pins left as in `s`) and whose evaluations name `ids`; what waits to be sent upward keeps its place. -/
structure Effect (ids : List AlarmId) (s t u : State) : Prop where
  own    : t.withAlarmsOf s = u
  alarms : AlarmFrame ids s t
  walk   : WalkFollows s t
  unit   : UnitFollows s t
  sent   : s.links.u.txQueue <+: t.links.u.txQueue

/-- No raise of these IDs would enter a STOP entry, so their evaluations leave the mode alone (R168). -/
def calm (s : State) (ids : List AlarmId) : Prop := ∀ i ∈ ids, (s.definition i).severity ≠ .stop

/-- `u` with the U-port's transmit drops of `t`: whether a forwarded frame found room is said elsewhere (R16). -/
def State.withDropsOf (u t : State) : State :=
  u.count .u fun c => { c with txDrops := t.links.u.counters.txDrops }

/-! ### Evaluations (R147 to R153) -/

/-- The count of present evaluations after one more (R147). -/
def countAfter (s : State) (i : AlarmId) : Byte := if (s.definition i).enabled then bump (s.status i).count else 0

/-- A present evaluation of the ID raises an entry (R151). -/
def raisesNow (s : State) (i : AlarmId) : Prop :=
  (s.definition i).qualify ≤ (countAfter s i).toNat ∧ (s.definition i).enabled = true ∧ (s.definition i).masked = false
    ∧ s.entry? i = none ∧ ((s.definition i).latched = true ∨ (s.status i).armed = true)

/-- The entry a raise appends (R151). -/
def entryOf (s : State) (i : AlarmId) : Entry :=
  ⟨i, (s.definition i).latched, (s.definition i).severity, (s.definition i).horn, (s.definition i).factor, s.now, false⟩

/-- From `s` to `t` the ID was evaluated present once (R147, R151, R168). -/
structure TakenPresent (s t : State) (i : AlarmId) : Prop where
  condition : (t.status i).condition = true
  count     : (t.status i).count = countAfter s i
  kept      : (t.status i).rearm = (s.status i).rearm ∧ (t.status i).armed = (s.status i).armed
  raised    : raisesNow s i → t.entry? i = some (entryOf s i) ∧ (t.status i).occurred = bump (s.status i).occurred
    ∧ (t.status i).lastRaise = s.now ∧ ((s.definition i).severity = .stop → t.mode ≠ .run)
  stands    : ¬raisesNow s i → t.entry? i = s.entry? i ∧ (t.status i).occurred = (s.status i).occurred
    ∧ (t.status i).lastRaise = (s.status i).lastRaise

/-- The entry, the rearm count and the armed flag after an absent evaluation (R148, R150, R153). -/
def absentOutcome (s : State) (i : AlarmId) : Option Entry × Byte × Bool :=
  let st := s.status i
  let again := st.armed || decide ((s.definition i).rearm ≤ (bump st.rearm).toNat)
  match s.entry? i with
  | none => (none, bump st.rearm, again)
  | some e =>
    if e.latched then (if e.acked then none else some e, bump st.rearm, again)
    else (none, 0, decide ((s.definition i).rearm = 0))

/-- From `s` to `t` the ID was evaluated absent once: taken as present while it is forced (R149), else under R148,
R150 and R153. -/
structure TakenAbsent (s t : State) (i : AlarmId) : Prop where
  forced : (s.status i).forced = true → TakenPresent s t i
  free   : (s.status i).forced = false →
    (t.status i).condition = false ∧ (t.status i).count = 0 ∧ (t.status i).occurred = (s.status i).occurred
    ∧ (t.status i).lastRaise = (s.status i).lastRaise
    ∧ (t.entry? i, (t.status i).rearm, (t.status i).armed) = absentOutcome s i

/-- From `s` to `t` the ID was evaluated once, present or absent. -/
def Taken (s t : State) (i : AlarmId) (present : Bool) : Prop :=
  if present then TakenPresent s t i else TakenAbsent s t i

/-- From `s` to `t` the ID was not evaluated: its status record and its entry are unchanged, but that a report pending
may have been placed. -/
def Untaken (s t : State) (i : AlarmId) : Prop :=
  { t.status i with report := (s.status i).report } = s.status i ∧ t.entry? i = s.entry? i

/-- From `s` to `t` the ID was evaluated once for each of these, in this order. -/
def TakenEach (s t : State) (i : AlarmId) : List Bool → Prop
  | [] => Untaken s t i
  | present :: later =>
    ∃ u : State, u.now = s.now ∧ u.definition i = s.definition i ∧ (u.status i).forced = (s.status i).forced
      ∧ Taken s u i present ∧ TakenEach u t i later

/-! ### Frames and samples -/

/-- A frame of `f` completes on the port: the bytes taken since SYNC, with `bytes`, are `f`'s (R2, R5). -/
def Completes (s : State) (p : Port) (bytes : List Byte) (f : Frame) : Prop :=
  s.working = true ∧ f.words.length ≤ 60 ∧
    ∃ got, (s.port p).rx = .inFrame got ∧ Config.sync :: (got ++ bytes) = f.bytes

/-- The command ends a frame on the port badly: counted in `k` and in the consecutive-bad count, the frame-error
condition evaluated against the threshold in force, and nothing else changed (R7, R8). -/
def CountsBad (c : Instr) (p : Port) (k : Counters) (s : State) : Prop :=
  ∃ t, exec c s = .next t
    ∧ Effect [idFrameErrors p] s t
        (s.setPort p { s.port p with rx := .hunting, counters := k, consecBad := bump (s.port p).consecBad })
    ∧ Taken s t (idFrameErrors p) (decide (s.frameErrorThreshold ≤ (bump (s.port p).consecBad).toNat))

/-- A feedback frame of the axis stands first in the D-port receive queue: a map is in force, the axis is mapped to
its station, and no other axis is (R27). -/
def SampleArrives (s : State) (a : Axis) (f : Frame) (rest : List Frame) : Prop :=
  s.working = true ∧ s.links.d.rxQueue = f :: rest ∧ f.kind = kindFbk ∧ s.pageValid .config = true
    ∧ (s.axis a).state ≠ .unmapped ∧ (s.axis a).station = f.station.toNat
    ∧ ∀ b, b ≠ a → (s.axis b).station ≠ f.station.toNat

/-- The axis's feedback timer has reached the end of its period (R32). -/
def FeedbackDue (s : State) (a : Axis) : Prop :=
  ∃ start, (s.axis a).timer = some start ∧ s.feedbackTimeout ≤ since s.now start

/-- From `s` to `t` a good sample of the axis is taken: it overtakes an expiry that is due, or was overtaken at this
moment already (R33, R155, notes/assumptions/30.md). -/
def Overtakes (s t : State) (a : Axis) : Prop :=
  let late := FeedbackDue s a ∨ (s.axis a).overtaken = some s.now
  (late → (t.axis a).overtaken = some s.now) ∧ (¬late → (t.axis a).overtaken = none)

/-- The payload passes every check of R28 for the axis. -/
def samplePasses : Axis → List Word → Prop
  | .hoist, ws => ∃ pos spd ten fl, ws = [pos, spd, ten, fl] ∧ pos.toNat ≤ 65000 ∧ -1000 ≤ spd.toInt
      ∧ spd.toInt ≤ 1000 ∧ ten.toNat ≤ 10000
  | .drag, ws => ∃ pos spd ten fl, ws = [pos, spd, ten, fl] ∧ pos.toNat ≤ 65000 ∧ -1000 ≤ spd.toInt
      ∧ spd.toInt ≤ 1000 ∧ ten.toNat ≤ 10000
  | .swing, ws => ∃ pos spd fl, ws = [pos, spd, fl] ∧ pos.toNat ≤ 35999 ∧ -3000 ≤ spd.toInt ∧ spd.toInt ≤ 3000
  | .walk, ws => ∃ pos fl, ws = [pos, fl] ∧ pos.toNat ≤ 35999

/-- The state with the front frame of the D-port receive queue taken. -/
def State.tookD (s : State) (rest : List Frame) : State := s.setPort .d { s.port .d with rxQueue := rest }

/-- The state with the front frame of the U-port receive queue taken. -/
def State.tookU (s : State) (rest : List Frame) : State := s.setPort .u { s.port .u with rxQueue := rest }

/-! ### Operations (R65, R127) -/

/-- The Governor, with no operation in hand, can take the REF that waits (R62, R65). -/
def RefStarts (s : State) (f : Frame) : Prop :=
  s.working = true ∧ s.gov.op = none ∧ s.gov.genWaiting = false ∧ s.links.waitingRef = some f

/-- The operation in progress stands before this stage. -/
def StageNext (s : State) (op : Op) (stage : OpStage) : Prop :=
  s.working = true ∧ s.gov.op = some op ∧ op.stage = stage

/-- The interlocks of R127, with the WALK page VALID as it is during every step (R138). -/
def InterlocksMet (s : State) : Prop :=
  s.gov.zone = .ground ∧ s.pageValid .walk = true
    ∧ s.image.hoist.tension ≤ s.walkField walkSlackTension ∧ s.image.swing.speed.natAbs ≤ s.restSwingSpeed
    ∧ s.image.swing.brakeSet = true
    ∧ s.image.hoist.state = .fresh ∧ s.image.drag.state = .fresh ∧ s.image.swing.state = .fresh
    ∧ s.image.walk.state = .fresh ∧ s.image.walk.fault = false

/-- The IDs that the walk stage can evaluate. -/
def walkStageIds : List AlarmId := [idInterlockWait, idWalkSteer, idWalkStall, idBrakeSlip]

/-! ### The walk stage (R123 to R130, R135, R140) -/

/-- The Walk Sequencer `w` with, IDLE in RUN, the head record taken as the current step (R126). -/
def headTaken (s : State) (w : WalkSeq) : WalkSeq :=
  match w.queue with
  | [] => w
  | r :: rest =>
    if w.state = .idle ∧ s.mode = .run then
      { w with state := .prep, queue := rest, current := some ⟨r, s.now, none, none, 0, 0, 0, 0, none⟩ }
    else w

/-- The house stands within the steer tolerance of the step's steer angle (R128). -/
def steerNear (s : State) (c : CurrentStep) : Prop :=
  min (angleSub s.image.swing.position c.record.steer) (angleSub c.record.steer s.image.swing.position)
    ≤ s.walkField walkSteerTolerance

/-- The step checks its steer in this walk stage: in PREP with the interlocks met (R127, R128). -/
def Tries (s : State) (w : WalkSeq) : Prop := (headTaken s w).state = .prep ∧ InterlocksMet s

/-- The walk stage of an operation begun in `s`, from the Walk Sequencer `w` that the request left (item 1 of R123) to
`t`: the head record is taken, the step in PREP waits, starts or ends STEER_MOVED, and each alarm of the stage is
evaluated as R128, R129, R135 and R140 say, once or not at all. -/
structure StageGoesOn (s t : State) (w : WalkSeq) : Prop where
  mode      : t.mode = s.mode
  waits     : ¬Tries s w → t.walk = headTaken s w
  starts    : ∀ c, Tries s w → (headTaken s w).current = some c → steerNear s c →
    t.walk = { headTaken s w with
      state := .step
      current := some { c with phase := some (s.camPhase s.image.walk.position), phaseStart := some s.now } }
    ∧ Taken s t idWalkSteer false
  moved     : ∀ c, Tries s w → (headTaken s w).current = some c → ¬steerNear s c →
    t.walk = (headTaken s w).endStep s.now .steerMoved ∧ Taken s t idWalkSteer true
  cleared   : ¬Tries s w → t.walk.state = .idle → t.walk.queue = [] → Taken s t idWalkSteer false
  unchecked : ¬Tries s w → ¬(t.walk.state = .idle ∧ t.walk.queue = []) → Untaken s t idWalkSteer
  prep      : ∀ c, t.walk.state = .prep → t.walk.current = some c →
    Taken s t idInterlockWait (decide (s.walkField walkPrepTimeout < since s.now c.start))
  notPrep   : t.walk.state ≠ .prep → Taken s t idInterlockWait false
  idle      : t.walk.state = .idle → Taken s t idWalkStall false
  notIdle   : t.walk.state ≠ .idle → Untaken s t idWalkStall
  ended     : s.walk.session = true → t.walk.session = false → Taken s t idBrakeSlip false
  going     : ¬(s.walk.session = true ∧ t.walk.session = false) → Untaken s t idBrakeSlip

/-- The speed of a phase from the WALK page; in rest that of the first phase of the direction (R130). -/
def speedOf (s : State) (dir : Direction) : CamPhase → Nat
  | .p1 => s.walkField (walkSpeed 0)
  | .p2 => s.walkField (walkSpeed 1)
  | .p3 => s.walkField (walkSpeed 2)
  | .p4 => s.walkField (walkSpeed 3)
  | .rest => if dir = .forward then s.walkField (walkSpeed 0) else s.walkField (walkSpeed 3)

/-- `ref` is the walk reference of an operation begun in `s` whose walk stage ends in `t` (R130): the target by state,
phase and direction, slewed against the walk baseline; 0 while the WALK page is not VALID. -/
structure WalkReferenceFormed (s t : State) (ref : Int) : Prop where
  invalid : s.pageValid .walk = false → ref = 0
  slewed  : s.pageValid .walk = true → ∃ v : Int, ref = slewFrom s.gov.baseWalk v (s.walkField walkSlew)
    ∧ (t.walk.state = .idle ∨ t.walk.state = .prep → v = 0)
    ∧ (∀ c ph, t.walk.state = .step → t.walk.current = some c → c.phase = some ph →
        v = (if c.record.direction = .forward then 1 else -1) * speedOf s c.record.direction ph)
    ∧ (∀ c, t.walk.state = .setdown → t.walk.current = some c →
        v = (if c.record.direction = .forward then 1 else -1) * s.walkField walkCrawl)
  moving  : ref ≠ 0 → t.walk.state = .step
    ∨ ∃ c, t.walk.state = .setdown ∧ t.walk.current = some c
        ∧ (c.phase = some .p2 ∨ c.phase = some .p3 ∨ c.phase = some .p4)

/-! ### Requests (R180 to R182) -/

/-- The Management Unit is FREE and the head request is `code` with these arguments. -/
def Serving (s : State) (code : Nat) (args : List Word) : Prop :=
  s.working = true ∧ s.mgmt.unit = .free ∧ ∃ f rest, s.mgmt.queue = f :: rest ∧ f.words = wordOfNat code :: args

/-- The state with the head request taken into service. -/
def State.tookRequest (s : State) : State := { s with mgmt := { s.mgmt with queue := s.mgmt.queue.tail } }

/-- The reply with these payload words is fixed: it waits at a full U-port transmit queue, or stands at its tail and
the unit is FREE again (R180, R182). -/
def Replied (s t : State) (words : List Word) : Prop :=
  (t.mgmt.unit = .replying words false ∧ 8 ≤ t.links.u.txQueue.length)
    ∨ (t.mgmt.unit = .free
        ∧ t.links.u.txQueue.getLast? = some ⟨composeFrame kindMrep s.stationByte words, .reply⟩)

/-- A request answered with these words that changes nothing but what the arbiter places (R181). -/
def AnswersOnly (c : Instr) (s : State) (words : List Word) : Prop :=
  ∃ t, exec c s = .next t ∧ Replied s t words ∧ t.withAlarmsOf s = s.tookRequest ∧ AlarmFrame [] s t ∧ t.mode = s.mode
    ∧ t.walk = s.walk ∧ t.alarm.list = s.alarm.list ∧ s.links.u.txQueue <+: t.links.u.txQueue

/-! ### The scan's restart (R59) -/

/-- The page's change of state restarts the pass from CONFIG, at the next advance, where the page is covered; a page that is
not covered, or keeps its state, leaves the scan as it stands. In LOADING the scan is idle and stays so. -/
def ScanFollows (s t : State) (id : PageId) : Prop :=
  let covered := id = .config ∨ id = .alarm ∨ id = .walk ∨ id = s.activePage
  (covered → (t.page id).state ≠ (s.page id).state →
      t.store.scan = s.store.scan.map (fun _ => ⟨.config, 0, 0xFFFF⟩) ∧ t.store.scanDue = false)
    ∧ (¬covered ∨ (t.page id).state = (s.page id).state →
      t.store.scan = s.store.scan ∧ t.store.scanDue = s.store.scanDue)

/-! ### Invariants: what a safe state is -/

/-- R172, R173, R191: at work the lines follow the mode and the list, and the horn pattern held is that of the
sounding entry; a transmit line carries the frame being sent, and is high at rest (R1, R13); in every reset they stand as
R191 gives. -/
structure LinesFollow (s : State) : Prop where
  stopn : s.phase = .working → s.pins.stopn = levelOf (decide (s.mode = .run))
  alm   : s.phase = .working → s.pins.alm =
    levelOf (decide (s.mode = .halt) ||
      s.alarm.list.any fun e => decide (e.severity = .derate) || decide (e.severity = .stop))
  horn  : s.phase = .working → s.pins.horn =
    levelOf (s.alarm.horn.any fun p => hornOn p (since s.now s.alarm.hornOrigin))
  utx   : s.phase = .working → s.pins.utx = (match s.links.u.tx with | none => .high | some x => .data x.item.frame.levels)
  dtx   : s.phase = .working → s.pins.dtx = (match s.links.d.tx with | none => .high | some x => .data x.item.frame.levels)
  sound : s.alarm.horn = (soundingEntry s.alarm.list).map (·.horn)
  reset : s.phase ≠ .working → s.phase ≠ .off → s.pins = ⟨.low, .low, .low, .high, .high⟩

/-- R152, R168: at most one entry per alarm ID, so at most 24; with an entry of severity STOP the mode is not RUN. -/
structure AlarmListSound (s : State) : Prop where
  once  : (s.alarm.list.map (·.id)).Nodup
  bound : s.alarm.list.length ≤ 24
  stop  : (∃ e ∈ s.alarm.list, e.severity = .stop) → s.mode ≠ .run

/-- The current step agrees with the sequencer state (R119). -/
def stepAgrees : SeqState → Option CurrentStep → Prop
  | .idle, c => c = none
  | .prep, c => ∃ x, c = some x ∧ x.phase = none ∧ x.phaseStart = none ∧ x.cause = none
  | .step, c => ∃ x ph, c = some x ∧ x.phase = some ph ∧ x.phaseStart ≠ none ∧ x.cause = none
  | .setdown, c => ∃ x, c = some x ∧ (x.phase = some .p2 ∨ x.phase = some .p3 ∨ x.phase = some .p4)
      ∧ x.phaseStart ≠ none ∧ x.cause ≠ none

/-- R119 to R121, R130, R138, R140: the step agrees with the state, SETDOWN only in P2, P3 or P4; the queue holds at
most 8 records and none outside RUN; the history holds at most 8; a session has a lock angle, and a VALID WALK page. -/
structure WalkSound (s : State) : Prop where
  agrees  : stepAgrees s.walk.state s.walk.current
  queue   : s.walk.queue.length ≤ 8
  outside : s.mode ≠ .run → s.walk.queue = []
  history : s.walk.history.length ≤ 8
  lock    : s.walk.session = true → s.walk.lockAngle ≠ none
  page    : s.walk.session = true → s.pageValid .walk = true

/-- R9, R14 to R16, R179: the capacities of the queues, and at most one REF in the D-port transmit queue. -/
structure QueuesBounded (s : State) : Prop where
  rxU      : s.links.u.rxQueue.length ≤ 4
  rxD      : s.links.d.rxQueue.length ≤ 8
  txU      : s.links.u.txQueue.length ≤ 8
  txD      : s.links.d.txQueue.length ≤ 4
  oneRef   : (s.links.d.txQueue.filter fun x => decide (x.origin = .reference)).length ≤ 1
  requests : s.mgmt.queue.length ≤ 4

/-- What R72, R73, R88, R96 and R101 say of one outgoing REF's payload: seven words; no reference beyond 1000; hoist,
drag and swing zero in LOADING, in HALT and in a generated frame; in a walk session swing zero with the brake
request and no hauling in; the brake request only with swing zero. -/
def RefSafe (ws : List Word) : Prop :=
  ∃ h d w k fl act der, ws = [h, d, w, k, fl, act, der]
    ∧ h.toInt.natAbs ≤ 1000 ∧ d.toInt.natAbs ≤ 1000 ∧ w.toInt.natAbs ≤ 1000 ∧ k.toInt.natAbs ≤ 1000
    ∧ der.toNat ≤ 256
    ∧ (fl.getLsbD 1 = true ∨ fl.getLsbD 2 = true ∨ fl.getLsbD 3 = true → h = 0 ∧ d = 0 ∧ w = 0)
    ∧ (fl.getLsbD 7 = true → w = 0 ∧ fl.getLsbD 0 = true ∧ h.toInt ≤ 0 ∧ d.toInt ≤ 0)
    ∧ (fl.getLsbD 0 = true → w = 0)

/-- A reference is zero or has the sign of its command, and its magnitude is at most the command's (R72, R92). -/
def follows (ref cmd : Int) : Prop := (ref = 0 ∨ ref.sign = cmd.sign) ∧ ref.natAbs ≤ cmd.natAbs

/-- The operation in progress keeps what its REF will need (R66, R72, R88, R96, R101). -/
structure OpSafe (op : Op) : Prop where
  commands  : op.hoistCommand.natAbs ≤ 1000 ∧ op.dragCommand.natAbs ≤ 1000 ∧ op.swingCommand.natAbs ≤ 1000
  derate    : op.derate ≤ 256
  walk      : op.walkRef.natAbs ≤ 1000
  generated : op.generated = true → op.hoistCommand = 0 ∧ op.dragCommand = 0 ∧ op.swingCommand = 0
  hoist     : follows op.hoistRef op.hoistCommand
  drag      : follows op.dragRef op.dragCommand
  swing     : follows op.swingRef op.swingCommand
  mode      : op.mode ≠ .run → op.hoistRef = 0 ∧ op.dragRef = 0 ∧ op.swingRef = 0
  session   : op.session = true → op.hoistRef ≤ 0 ∧ op.dragRef ≤ 0 ∧ op.swingRef = 0
  brake     : op.stage = .assembly → op.session = true → op.swingBrake = true
  held      : op.swingBrake = true → op.swingRef = 0

/-- R72, R74: the baselines are within ±1000, the operation in progress is safe, and so is every outgoing REF that
waits or is being sent. -/
structure ReferencesSafe (s : State) : Prop where
  hoist   : s.gov.baseHoist.natAbs ≤ 1000
  drag    : s.gov.baseDrag.natAbs ≤ 1000
  swing   : s.gov.baseSwing.natAbs ≤ 1000
  walk    : s.gov.baseWalk.natAbs ≤ 1000
  op      : ∀ op, s.gov.op = some op → OpSafe op
  waiting : ∀ x ∈ s.links.d.txQueue, x.origin = .reference → RefSafe x.frame.words
  sending : ∀ x, s.links.d.tx = some x → x.item.origin = .reference → RefSafe x.item.frame.words

/-- R36, R42, R55, R57: every page's contents are in canonical form and within the page, an EMPTY page is all zero; a
pending profile is a VALID page other than the active one; the scan is idle exactly in LOADING. -/
structure StoreSound (s : State) : Prop where
  form    : ∀ id, Memory.wf (s.page id).words ∧ ∀ c ∈ (s.page id).words, c.1 < id.size
  empty   : ∀ id, (s.page id).state = .empty → (s.page id).words = []
  pending : ∀ n, s.store.pendingProfile = some n → s.pageValid (.profile n) = true ∧ n ≠ s.store.active
  scan    : s.store.scan = none ↔ s.mode = .loading

/-- R15, R16: while the part works, the U-port transmit queue is full or nothing of the part's own waits for it. -/
def NothingOwnWaits (s : State) : Prop :=
  s.phase = .working → s.links.u.txQueue.length < 8 →
    (∀ i, (s.status i).report = false) ∧ ∀ words restart, s.mgmt.unit ≠ .replying words restart

/-- The values an axis record may hold (R23). -/
def inRange (a : Axis) (r : AxisRecord) : Prop :=
  match a with
  | .hoist => r.position ≤ 65000 ∧ r.speed.natAbs ≤ 1000 ∧ r.tension ≤ 10000
  | .drag => r.position ≤ 65000 ∧ r.speed.natAbs ≤ 1000 ∧ r.tension ≤ 10000
  | .swing => r.position ≤ 35999 ∧ r.speed.natAbs ≤ 3000 ∧ r.tension = 0
  | .walk => r.position ≤ 35999 ∧ r.speed = 0 ∧ r.tension = 0

/-- R23, R24: the fields of a record agree with its state. -/
structure RecordSound (a : Axis) (r : AxisRecord) : Prop where
  range    : inRange a r
  unmapped : r.state = .unmapped → r.station = 0 ∧ r.timer = none
  mapped   : r.state ≠ .unmapped → 1 ≤ r.station ∧ r.station ≤ 62 ∧ r.timer ≠ none
  unheard  : r.state = .unmapped ∨ r.state = .noSample → r.sampleTime = none
  heard    : r.state = .fresh → r.sampleTime ≠ none
  cleared  : r.sampleTime = none →
    r.position = 0 ∧ r.speed = 0 ∧ r.tension = 0 ∧ r.fault = false ∧ r.brakeSet = false
  overtaken : ∀ m, r.overtaken = some m → r.state = .fresh ∧ r.timer = some m

/-- R23 to R26, R35: the records are sound; at work the axes are mapped exactly while CONFIG is VALID, and in every
reset none is. -/
structure ImageSound (s : State) : Prop where
  records : ∀ a, RecordSound a (s.axis a)
  working : s.phase = .working → ∀ a, (s.axis a).state = .unmapped ↔ s.pageValid .config = false
  reset   : s.phase ≠ .working → s.phase ≠ .off → ∀ a, (s.axis a).state = .unmapped

/-- The frame is the reply to an accepted RESTART. -/
def isRestartReply (x : TxFrame) : Prop := x.origin = .restartReply

/-- R45, R46, R177, R178: a page is VALIDATING exactly while the Management Unit holds its validation; a RESTART reply
waits to be sent, and a commanded restart is in effect, only with the RESTART in service; while it is in effect the mode
is LOADING (R165). -/
structure ManagementSound (s : State) : Prop where
  validating : ∀ v, s.mgmt.unit = .validating v → (s.page v.page).state = .validating ∧ v.next ≤ v.page.size
  held       : ∀ id, (s.page id).state = .validating → ∃ v, s.mgmt.unit = .validating v ∧ v.page = id
  queued     : (∃ x ∈ s.links.u.txQueue, isRestartReply x) → s.mgmt.unit = .restartPlaced
  sending    : (∃ x, s.links.u.tx = some x ∧ isRestartReply x.item) → s.mgmt.unit = .restartPlaced
  inEffect   : ∀ k, s.phase = .restarting k →
    s.mgmt.unit = .restartPlaced ∧ s.links.u.txQueue = [] ∧ s.links.u.tx = none
  loading    : ∀ k, s.phase = .restarting k → s.mode = .loading
  below      : (∀ x ∈ s.links.d.txQueue, ¬isRestartReply x) ∧ ∀ x, s.links.d.tx = some x → ¬isRestartReply x.item

/-- R20, R21, R63: the cycle timer runs exactly while the watchdog is EXPIRED, which it is not while a commanded
restart is in effect. -/
structure LinkLossSound (s : State) : Prop where
  timer   : s.links.watchdog = .expired ↔ s.gov.cycleTimer ≠ none
  restart : ∀ k, s.phase = .restarting k → s.links.watchdog ≠ .expired

/-- All of it. -/
structure Sound (s : State) : Prop where
  lines      : LinesFollow s
  alarms     : AlarmListSound s
  walk       : WalkSound s
  queues     : QueuesBounded s
  references : ReferencesSafe s
  store      : StoreSound s
  arbiter    : NothingOwnWaits s
  image      : ImageSound s
  management : ManagementSound s
  linkLoss   : LinkLossSound s

end Sys2Proof.Machine
end

