-- ==== Sys2Proof/Certificates/Slice0/Obligations.lean ====
section
/-! DEFINITION. The statements for the provers. -/

open Sys2Proof Sys2Proof.Machine

/-! ### The machine -/

/-- A step is the command at the front of the queue, run over the queue's rest; on an empty queue the part idles (the
model's choice, notes/assumptions/2.md). Every command completes: no fault and no refusal, and the queue of commands
is left alone. -/
def Obligations.StepRunsFrontCommand : Prop :=
  ((∀ (c : Instr) (rest : List Instr) (s : State), s.pending = c :: rest →
    step s = exec c { s with pending := rest })
  ∧ ∀ s : State, s.pending = [] → step s = .next s)
  ∧ (∀ (c : Instr) (s : State), ∃ t, exec c s = .next t ∧ t.pending = s.pending)

/-- The state right after a power-on reset is sound. -/
def Obligations.ResetIsSound : Prop :=
  Sound State.reset

/-- R165: the mode goes to RUN only by GO or RESUME, to HALT only from RUN, to LOADING only by a reset (the commanded
one takes effect as its reply's transmission completes). -/
def Obligations.ModeMovesOnlyAsListed : Prop :=
  ∀ (c : Instr) (s t : State), exec c s = .next t → t.mode ≠ s.mode →
    (t.mode = .run → c = .go ∨ c = .resume)
    ∧ (t.mode = .halt → s.mode = .run)
    ∧ (t.mode = .loading → c = .powerOnReset ∨ (∃ ns, c = .pinReset ns) ∨ (∃ straps, c = .resetEnd straps)
        ∨ ∃ p, c = .transmitComplete p)

/-- R42: a page becomes VALID only where a validation completes, and FAILED only by the scan. Its words change only by
WRITE_PAGE and the resets that empty it: that storage gone wrong (3.8) has no command is the model's choice
(notes/assumptions/25.md). -/
def Obligations.PagesChangeOnlyAsListed : Prop :=
  ∀ (c : Instr) (s t : State) (id : PageId), exec c s = .next t →
    ((t.page id).words ≠ (s.page id).words →
      c = .writePage ∨ c = .powerOnReset ∨ (∃ ns, c = .pinReset ns) ∨ ∃ straps, c = .resetEnd straps)
    ∧ ((t.page id).state = .valid → (s.page id).state ≠ .valid → c = .validationComplete)
    ∧ ((t.page id).state = .failed → (s.page id).state ≠ .failed →
        c = .scanAdvance ∧ (s.page id).state = .valid)

/-! ### Invariants that every step keeps -/

/-- R1, R13, R172, R173, R191: the lines follow the mode, the alarm list and the transmitters (the levels of the bits
of a frame: the model's choice, notes/assumptions/32.md). -/
def Obligations.LinesFollowKept : Prop :=
  ∀ s t : State, LinesFollow s → step s = .next t → LinesFollow t

/-- R152, R168: one entry per ID, and no RUN beside a STOP entry. -/
def Obligations.AlarmListSoundKept : Prop :=
  ∀ s t : State, AlarmListSound s → step s = .next t → AlarmListSound t

/-- R119 to R121, R140: the Walk Sequencer's step, queue, history and lock angle agree. -/
def Obligations.WalkSoundKept : Prop :=
  ∀ s t : State, WalkSound s → step s = .next t → WalkSound t

/-- R9, R14 to R16, R179: no queue beyond its capacity, at most one REF waits, and nothing of the part's own waits
beside a free slot. -/
def Obligations.QueuesSoundKept : Prop :=
  (∀ s t : State, QueuesBounded s → step s = .next t → QueuesBounded t)
  ∧ (∀ s t : State, NothingOwnWaits s → step s = .next t → NothingOwnWaits t)

/-- R72, R88, R96, R101, R130: every outgoing REF is safe. -/
def Obligations.ReferencesSafeKept : Prop :=
  ∀ s t : State, ReferencesSafe s → step s = .next t → ReferencesSafe t

/-- R36, R42, R55, R57: pages, pending profile and scan are sound. -/
def Obligations.StoreSoundKept : Prop :=
  ∀ s t : State, StoreSound s → step s = .next t → StoreSound t

/-- R23 to R26: every axis record agrees with its state, and the map with CONFIG. -/
def Obligations.ImageSoundKept : Prop :=
  ∀ s t : State, ImageSound s → step s = .next t → ImageSound t

/-- R45, R46, R177, R178: the Management Unit agrees with the page being validated and the restart in service. R165,
R178: the mode is LOADING while a commanded restart is in effect. R20, R63: the cycle timer runs exactly while the
watchdog is EXPIRED. -/
def Obligations.ServiceAndLinkLossSoundKept : Prop :=
  (∀ s t : State, ManagementSound s → step s = .next t → ManagementSound t)
  ∧ (∀ s t : State, LinkLossSound s → step s = .next t → LinkLossSound t)

/-! ### Frames and reception (R2 to R9) -/

/-- Every frame of at most 60 words is read back from its bytes: SYNC first, 6 + 2 × LENGTH bytes, complete exactly at
its last byte, and with a correct check word the register run on through it is 0 (R2 to R5). On the line each byte is
one character of 10 bits, a start bit, 8 data bits, least significant first, and a stop bit, the characters back to
back; the byte is taken from its data bits whatever the stop bit (R1). That a start bit is low and a 1 high is the
model's choice (notes/assumptions/32.md). -/
def Obligations.FramesReadBack : Prop :=
  ∀ f : Frame, f.words.length ≤ 60 →
    f.bytes.length = 6 + 2 * f.words.length
    ∧ f.bytes.head? = some 0xC6
    ∧ endsComplete (f.bytes.drop 1) = true
    ∧ frameOfBytes (f.bytes.drop 1) = f
    ∧ (∀ got, got <+: f.bytes.drop 1 → got ≠ f.bytes.drop 1 → stillOpen got = true)
    ∧ (f.checkOk = true → (f.bytes.drop 1).foldl crcByte 0xFFFF = 0)
    ∧ f.levels.length = 10 * f.bytes.length ∧ f.durationNs = 2500 * (6 + 2 * f.words.length)
    ∧ f.durationNs = Config.bitNs * f.levels.length
    ∧ ∀ (k : Nat) (b : Byte), f.bytes[k]? = some b →
        let character := (f.levels.drop (10 * k)).take 10
        character = [false, b.getLsbD 0, b.getLsbD 1, b.getLsbD 2, b.getLsbD 3, b.getLsbD 4, b.getLsbD 5, b.getLsbD 6,
          b.getLsbD 7, true]
        ∧ ∀ stop, byteOfCharacter (character.take 9 ++ [stop]) = b

/-- FRAME_START (R4, R5): in HUNTING only 0xC6 does anything; in IN_FRAME a byte that ends nothing is data. -/
def Obligations.ReceiverTakesBytes : Prop :=
  ∀ (p : Port) (b : Byte) (s : State), s.clk = true → s.phase = .working ∨ (∃ k, s.phase = .restarting k) →
    ((s.port p).rx = .hunting → b ≠ 0xC6 → exec (.frameStart p b) s = .next s)
    ∧ ((s.port p).rx = .hunting → b = 0xC6 →
        exec (.frameStart p b) s = .next (s.setPort p { s.port p with rx := .inFrame [] }))
    ∧ ∀ got, (s.port p).rx = .inFrame got →
        (∀ l, (got ++ [b])[2]? = some l → l.toNat ≤ 60 ∧ (got ++ [b]).length < 5 + 2 * l.toNat) →
        exec (.frameStart p b) s = .next (s.setPort p { s.port p with rx := .inFrame (got ++ [b]) })

/-- FRAME_COMPLETE with outcome GOOD (R7 to R9): counted, the consecutive-bad count 0, the condition evaluated absent,
the frame queued or, at a full queue, counted as overrun. BAD_LENGTH, BAD_CHECK, MISFORMED and TRUNCATED (R5 to R8):
each is counted and evaluated, and the frame changes nothing else; a silence of at most 25 us ends nothing, and the
command that names it leaves the bytes it carries untaken (the model's choice, notes/assumptions/1.md and
notes/assumptions/4.md). -/
def Obligations.FrameOutcomes : Prop :=
  (∀ (p : Port) (bytes : List Byte) (f : Frame) (s : State), Completes s p bytes f → f.checkOk = true →
    ¬(p = .u ∧ f.kind = 0x31 ∧ f.words.length ≠ 6) →
    ∃ t, exec (.frameComplete p bytes) s = .next t
      ∧ Effect [idFrameErrors p] s t
          (s.setPort p { s.port p with
            rx := .hunting
            consecBad := 0
            rxQueue := if (s.port p).rxQueue.length < (match p with | .u => 4 | .d => 8)
              then (s.port p).rxQueue ++ [f] else (s.port p).rxQueue
            counters := { (s.port p).counters with
              good := bump (s.port p).counters.good
              overrun := if (s.port p).rxQueue.length < (match p with | .u => 4 | .d => 8)
                then (s.port p).counters.overrun else bump (s.port p).counters.overrun } })
      ∧ Taken s t (idFrameErrors p) false)
  ∧ (∀ (p : Port) (bytes : List Byte) (s : State),
    (∀ got l, s.working = true → (s.port p).rx = .inFrame got → (got ++ bytes).length = 3 →
      (got ++ bytes)[2]? = some l → 60 < l.toNat →
      CountsBad (.badLength p bytes) p
        { (s.port p).counters with badLength := bump (s.port p).counters.badLength } s)
    ∧ (∀ f, Completes s p bytes f → f.checkOk = false →
      CountsBad (.frameComplete p bytes) p
        { (s.port p).counters with badCheck := bump (s.port p).counters.badCheck } s)
    ∧ (∀ f, Completes s p bytes f → f.checkOk = true → p = .u → f.kind = 0x31 → f.words.length ≠ 6 →
      CountsBad (.frameComplete p bytes) p
        { (s.port p).counters with badLength := bump (s.port p).counters.badLength } s)
    ∧ ∀ got ns, s.working = true → (s.port p).rx = .inFrame got →
      (∀ l, (got ++ bytes)[2]? = some l → l.toNat ≤ 60 ∧ (got ++ bytes).length < 5 + 2 * l.toNat) →
      (25000 < ns → CountsBad (.truncated p bytes ns) p
        { (s.port p).counters with truncated := bump (s.port p).counters.truncated } s)
      ∧ (ns ≤ 25000 → exec (.truncated p bytes ns) s = .next s))

/-! ### The Frame Router (R10, R11, R16, R19) -/

/-- ROUTE_U_FRAME classifies by KIND and STATION (R10). -/
def Obligations.RouterClassifiesUpstream : Prop :=
  ∀ (f : Frame) (rest : List Frame) (s : State), s.working = true → s.links.waitingRef = none →
    s.links.u.rxQueue = f :: rest →
    (f.kind = 0x31 → f.station = 0 →
      ∃ t, exec .routeUFrame s = .next t ∧ t.links.waitingRef = some f ∧ t.links.watchdog = .running s.now
        ∧ t.links.u.rxQueue = rest)
    ∧ (f.kind = 0x95 → f.station.toNat = s.station →
      ∃ t, exec .routeUFrame s = .next t ∧ Effect [] s t
        ((s.tookU rest).setMgmt { s.mgmt with
          queue := if s.mgmt.queue.length < 4 then s.mgmt.queue ++ [f] else s.mgmt.queue
          discards := if s.mgmt.queue.length < 4 then s.mgmt.discards else bump s.mgmt.discards }))
    ∧ (f.kind = 0x95 → f.station.toNat ≠ s.station →
      ∃ t, exec .routeUFrame s = .next t ∧ Effect [] s t
        ((s.tookU rest).setPort .d { s.links.d with
          txQueue := if s.links.d.txQueue.length < 4 then s.links.d.txQueue ++ [⟨f, .forwarded⟩]
            else s.links.d.txQueue
          counters := { s.links.d.counters with
            txDrops := if s.links.d.txQueue.length < 4 then s.links.d.counters.txDrops
              else bump s.links.d.counters.txDrops } }))
    ∧ (f.kind ≠ 0x95 → ¬(f.kind = 0x31 ∧ f.station = 0) →
      ∃ t, exec .routeUFrame s = .next t ∧ Effect [] s t
        (s.setPort .u { s.links.u with
          rxQueue := rest
          counters := { s.links.u.counters with misdirected := bump s.links.u.counters.misdirected } }))

/-- A valid REF restarts the watchdog in either state, evaluates LINK_UP_LOST absent and stops the cycle timer; no
other frame restarts the watchdog (R19). -/
def Obligations.ValidRefRestartsWatchdog : Prop :=
  ∀ (f : Frame) (rest : List Frame) (s : State), s.working = true →
    (s.links.waitingRef = none → s.links.u.rxQueue = f :: rest → f.kind = 0x31 → f.station = 0 →
      ∃ t, exec .routeUFrame s = .next t
        ∧ Effect [idLinkUpLost] s t
            (((s.tookU rest).setLinks { (s.tookU rest).links with
                watchdog := .running s.now, waitingRef := some f }).setGov { s.gov with cycleTimer := none })
        ∧ Taken s t idLinkUpLost false)
    ∧ (s.links.u.rxQueue = f :: rest → ¬(f.kind = 0x31 ∧ f.station = 0) →
      ∀ t, exec .routeUFrame s = .next t →
        t.links.watchdog = s.links.watchdog ∧ t.gov.cycleTimer = s.gov.cycleTimer)
    ∧ ∀ (c : Instr) (t : State), exec c s = .next t →
      (∃ p bytes, c = .frameComplete p bytes) ∨ (∃ upFirst order, c = .routeDFrame upFirst order) →
        t.links.watchdog = s.links.watchdog ∧ t.gov.cycleTimer = s.gov.cycleTimer

/-- ROUTE_D_FRAME forwards FBK and MREP upward, each as it was received, or counts a transmit drop; any other KIND is
misdirected (R11, R12, R16). -/
def Obligations.RouterForwardsUpward : Prop :=
  ∀ (f : Frame) (rest : List Frame) (upFirst : Bool) (order : List Nat) (s : State), s.working = true →
    s.links.d.rxQueue = f :: rest →
    (f.kind ≠ 0x52 → f.kind ≠ 0xB6 →
      exec (.routeDFrame upFirst order) s = .next (s.setPort .d { s.links.d with
        rxQueue := rest
        counters := { s.links.d.counters with misdirected := bump s.links.d.counters.misdirected } }))
    ∧ (f.kind = 0xB6 → ∃ t, exec (.routeDFrame upFirst order) s = .next t
        ∧ Effect [] s t ((s.tookD rest).withDropsOf t))
    ∧ (f.kind = 0xB6 ∨ (f.kind = 0x52 ∧ upFirst = true) →
      ∃ t, exec (.routeDFrame upFirst order) s = .next t
        ∧ (s.links.u.txQueue.length < 8 →
            s.links.u.txQueue ++ [⟨f, .forwarded⟩] <+: t.links.u.txQueue
              ∧ t.links.u.counters.txDrops = s.links.u.counters.txDrops)
        ∧ (8 ≤ s.links.u.txQueue.length →
            t.links.u.txQueue = s.links.u.txQueue
              ∧ t.links.u.counters.txDrops = bump s.links.u.counters.txDrops))
    ∧ (f.kind = 0x52 → upFirst = false →
      ∃ t, exec (.routeDFrame upFirst order) s = .next t
        ∧ ((t.links.u.txQueue.getLast? = some ⟨f, .forwarded⟩
              ∧ t.links.u.counters.txDrops = s.links.u.counters.txDrops)
          ∨ (8 ≤ t.links.u.txQueue.length ∧ s.links.u.txQueue <+: t.links.u.txQueue
              ∧ t.links.u.counters.txDrops = bump s.links.u.counters.txDrops)))

/-! ### Feedback samples (R27 to R33, R131 to R133, R140) -/

/-- A good rope sample is accepted whole (R30). The mark of an expiry that it overtakes is the model's
(notes/assumptions/30.md). -/
def Obligations.RopeSampleAccepted : Prop :=
  ∀ (a : Axis) (pos spd ten fl : Word) (f : Frame) (rest : List Frame) (upFirst : Bool) (order : List Nat) (s : State),
    a = .hoist ∨ a = .drag → SampleArrives s a f rest → f.words = [pos, spd, ten, fl] → samplePasses a f.words →
    ∃ t, exec (.routeDFrame upFirst order) s = .next t
      ∧ Effect [idStale a, idDriveFault a] s t
          (((s.tookD rest).setAxis a { s.axis a with
            state := .fresh, position := pos.toNat, speed := spd.toInt, tension := ten.toNat
            fault := fl.getLsbD 0, brakeSet := fl.getLsbD 1
            sampleTime := some s.now, timer := some s.now, overtaken := (t.axis a).overtaken }).withDropsOf t)
      ∧ Overtakes s t a
      ∧ Taken s t (idStale a) false
      ∧ Taken s t (idDriveFault a) (fl.getLsbD 0)

/-- A good SWING sample is accepted and, during a walk session, evaluates SWING_BRAKE_SLIP against the lock angle; no
session, no evaluation (R30, R140). The mark of an expiry that it overtakes is the model's (notes/assumptions/30.md).
-/
def Obligations.SwingSampleAccepted : Prop :=
  ∀ (pos spd fl : Word) (f : Frame) (rest : List Frame) (upFirst : Bool) (order : List Nat) (s : State),
    SampleArrives s .swing f rest → f.words = [pos, spd, fl] → samplePasses .swing f.words →
    ∃ t, exec (.routeDFrame upFirst order) s = .next t
      ∧ Effect (if s.walk.session then [idStale .swing, idDriveFault .swing, idBrakeSlip]
          else [idStale .swing, idDriveFault .swing]) s t
          (((s.tookD rest).setAxis .swing { s.image.swing with
            state := .fresh, position := pos.toNat, speed := spd.toInt, tension := 0
            fault := fl.getLsbD 0, brakeSet := fl.getLsbD 1
            sampleTime := some s.now, timer := some s.now, overtaken := (t.axis .swing).overtaken }).withDropsOf t)
      ∧ Overtakes s t .swing
      ∧ Taken s t (idStale .swing) false
      ∧ Taken s t (idDriveFault .swing) (fl.getLsbD 0)
      ∧ ∀ lock, s.walk.session = true → s.walk.lockAngle = some lock → t.mode = s.mode →
          Taken s t idBrakeSlip
            (decide (s.walkField walkSteerTolerance < min (angleSub pos.toNat lock) (angleSub lock pos.toNat)))

/-- A good WALK sample during a step: a FAULT ends it FAULTED; else the phase is followed, entering rest in STEP ends
it DONE, rest or P1 in SETDOWN ends it with its cause, a phase beyond its maximum ends it STALLED, and only that
evaluates WALK_STALL (R131 to R133), the queue being emptied before WALK_STALL is evaluated (the model's order,
notes/assumptions/20.md). A good WALK sample in IDLE or PREP is accepted and changes nothing of the Walk Sequencer
(R30, R131). In each state the mark of an expiry that the sample overtakes is the model's (notes/assumptions/30.md).
The cam phases (R122): from boundaries that rise, every angle lies in the one phase whose boundaries hold it, and
outside them in rest. -/
def Obligations.WalkSampleMovesStep : Prop :=
  ((∀ (pos fl : Word) (f : Frame) (rest : List Frame) (upFirst : Bool) (order : List Nat) (s : State) (c : CurrentStep),
    SampleArrives s .walk f rest → f.words = [pos, fl] → samplePasses .walk f.words →
    calm s [idStale .walk, idDriveFault .walk, idWalkStall, idBrakeSlip] →
    stepAgrees s.walk.state s.walk.current → s.walk.current = some c → s.walk.state = .step ∨ s.walk.state = .setdown →
    let ph := s.camPhase pos.toNat
    let same := c.phase = some ph
    let c1 := if same then c else { c.closePhase s.now with phase := some ph, phaseStart := some s.now }
    let w1 : WalkSeq := { s.walk with current := some c1 }
    let done := s.walk.state = .step ∧ ph = .rest ∧ ¬same
    let down := s.walk.state = .setdown ∧ (ph = .rest ∨ ph = .p1)
    let late := s.phaseMax ph < since s.now (c.phaseStart.getD s.now)
    ∃ t, exec (.routeDFrame upFirst order) s = .next t
      ∧ t.withAlarmsOf s = ((s.tookD rest).setAxis .walk { s.image.walk with
            state := .fresh, position := pos.toNat, speed := 0, tension := 0
            fault := fl.getLsbD 0, brakeSet := fl.getLsbD 1
            sampleTime := some s.now, timer := some s.now, overtaken := (t.axis .walk).overtaken }).withDropsOf t
      ∧ AlarmFrame [idStale .walk, idDriveFault .walk, idWalkStall, idBrakeSlip] s t
      ∧ t.mode = s.mode
      ∧ Overtakes s t .walk
      ∧ Taken s t (idStale .walk) false
      ∧ Taken s t (idDriveFault .walk) (fl.getLsbD 0)
      ∧ (fl.getLsbD 0 = true → t.walk = { s.walk.endStep s.now .faulted with queue := [] })
      ∧ (fl.getLsbD 0 = false → done → t.walk = w1.endStep s.now .done)
      ∧ (fl.getLsbD 0 = false → down →
          t.walk = w1.endStep s.now (if c.cause = some .halted then .halted else .cancelled))
      ∧ (fl.getLsbD 0 = false → ¬done → ¬down → same → late →
          t.walk = { w1.endStep s.now .stalled with queue := [] } ∧ Taken s t idWalkStall true)
      ∧ (fl.getLsbD 0 = false → ¬done → ¬down → ¬(same ∧ late) → t.walk = w1)
      ∧ (¬(fl.getLsbD 0 = false ∧ ¬done ∧ ¬down ∧ same ∧ late) → Untaken s t idWalkStall)
      ∧ (s.walk.session = true → t.walk.session = false → Taken s t idBrakeSlip false)
      ∧ (¬(s.walk.session = true ∧ t.walk.session = false) → Untaken s t idBrakeSlip))
  ∧ (∀ (pos fl : Word) (f : Frame) (rest : List Frame) (upFirst : Bool) (order : List Nat) (s : State),
    SampleArrives s .walk f rest → f.words = [pos, fl] → samplePasses .walk f.words →
    s.walk.state = .idle ∨ s.walk.state = .prep →
    ∃ t, exec (.routeDFrame upFirst order) s = .next t
      ∧ Effect [idStale .walk, idDriveFault .walk] s t
          (((s.tookD rest).setAxis .walk { s.image.walk with
            state := .fresh, position := pos.toNat, speed := 0, tension := 0
            fault := fl.getLsbD 0, brakeSet := fl.getLsbD 1
            sampleTime := some s.now, timer := some s.now, overtaken := (t.axis .walk).overtaken }).withDropsOf t)
      ∧ Overtakes s t .walk
      ∧ Taken s t (idStale .walk) false
      ∧ Taken s t (idDriveFault .walk) (fl.getLsbD 0)))
  ∧ (∀ (s : State) (angle : Nat),
    let a := fun k => s.walkField (walkBoundary k)
    a 0 < a 1 → a 1 < a 2 → a 2 < a 3 → a 3 < a 4 →
    (s.camPhase angle = .p1 ↔ a 0 ≤ angle ∧ angle < a 1)
    ∧ (s.camPhase angle = .p2 ↔ a 1 ≤ angle ∧ angle < a 2)
    ∧ (s.camPhase angle = .p3 ↔ a 2 ≤ angle ∧ angle < a 3)
    ∧ (s.camPhase angle = .p4 ↔ a 3 ≤ angle ∧ angle < a 4)
    ∧ (s.camPhase angle = .rest ↔ a 4 ≤ angle ∨ angle < a 0))

/-- A bad sample changes the bad-sample counter only, and an FBK that no mapped axis owns changes no record; neither
makes an evaluation (R27, R29). -/
def Obligations.OtherSamplesChangeNoRecord : Prop :=
  ∀ (f : Frame) (rest : List Frame) (upFirst : Bool) (order : List Nat) (s : State),
    (∀ a, SampleArrives s a f rest → ¬samplePasses a f.words →
      ∃ t, exec (.routeDFrame upFirst order) s = .next t
        ∧ Effect [] s t
            (((s.tookD rest).setAxis a { s.axis a with badSamples := bump (s.axis a).badSamples }).withDropsOf t))
    ∧ (s.working = true → s.links.d.rxQueue = f :: rest → f.kind = 0x52 →
      (s.pageValid .config = false ∨
        ∀ a, (s.axis a).state = .unmapped ∨ (s.axis a).station ≠ f.station.toNat) →
      ∃ t, exec (.routeDFrame upFirst order) s = .next t ∧ Effect [] s t ((s.tookD rest).withDropsOf t))

/-- FEEDBACK_TIMER_EXPIRY: the axis goes STALE, its timer restarts, STALE_x is evaluated present; with WALK leaving
FRESH a step in STEP or SETDOWN ends FAULTED and the queue is emptied (R32, R137), before STALE_WALK is evaluated (the
model's order, notes/assumptions/19.md). Where a good sample taken first at the same moment restarted the timer, the
axis keeps what the sample gave it (R33) and only STALE_x is evaluated present (R155; the two rules together are the
model's choice, notes/assumptions/30.md). A timer that is not due and was not due at this moment changes nothing. -/
def Obligations.FeedbackTimerExpires : Prop :=
  ∀ (a : Axis) (s : State), s.working = true →
    let u := s.setAxis a { s.axis a with state := .stale, timer := some s.now, overtaken := none }
    let lost := a = .walk ∧ (s.axis a).state = .fresh ∧ (s.walk.state = .step ∨ s.walk.state = .setdown)
    (FeedbackDue s a → ¬lost → ∃ t, exec (.feedbackTimerExpiry a) s = .next t
        ∧ Effect [idStale a] s t u ∧ Taken s t (idStale a) true)
    ∧ (FeedbackDue s a → lost → stepAgrees s.walk.state s.walk.current →
      ∃ t, exec (.feedbackTimerExpiry a) s = .next t
        ∧ t.withAlarmsOf s = u
        ∧ AlarmFrame [idStale a, idBrakeSlip] s t
        ∧ Taken s t (idStale a) true
        ∧ t.walk = { s.walk.endStep s.now .faulted with queue := [] })
    ∧ (¬FeedbackDue s a → (s.axis a).overtaken = some s.now →
      ∃ t, exec (.feedbackTimerExpiry a) s = .next t
        ∧ Effect [idStale a] s t (s.setAxis a { s.axis a with overtaken := none }) ∧ Taken s t (idStale a) true)
    ∧ (¬FeedbackDue s a → (s.axis a).overtaken ≠ some s.now → exec (.feedbackTimerExpiry a) s = .next s)

/-! ### Transmission and the watchdog (R13, R15, R18, R20) -/

/-- TRANSMIT_START and TRANSMIT_COMPLETE: the transmitter takes the head of its queue, in order, and otherwise goes
idle (R13). -/
def Obligations.TransmitterTakesHead : Prop :=
  ∀ (p : Port) (s : State), s.working = true →
    (∀ x rest, (s.port p).tx = none → (s.port p).txQueue = x :: rest →
      let s1 := s.setPort p { s.port p with tx := some ⟨x, false⟩, txQueue := rest }
      ∃ t, exec (.transmitStart p) s = .next t ∧ Effect [] s1 t s1)
    ∧ (∀ sent x rest, (s.port p).tx = some sent → sent.item.origin ≠ .restartReply →
      (s.port p).txQueue = x :: rest →
      let s1 := s.setPort p { s.port p with tx := some ⟨x, false⟩, txQueue := rest }
      ∃ t, exec (.transmitComplete p) s = .next t ∧ Effect [] s1 t s1)
    ∧ ∀ sent, (s.port p).tx = some sent → sent.item.origin ≠ .restartReply → (s.port p).txQueue = [] →
      let s1 := s.setPort p { s.port p with tx := none }
      ∃ t, exec (.transmitComplete p) s = .next t ∧ Effect [] s1 t s1

/-- The arbiter (R15, R157, R158): the free slots of the U-port transmit queue are filled, first by the pending
reports, lowest ID first, each composed from the ID's state at that moment, then by the waiting reply; a report or a
reply that finds no slot keeps waiting. The model lets it act once, as a command ends (the model's choice,
notes/assumptions/6.md). -/
def Obligations.ArbiterFillsFreeSlots : Prop :=
  ∀ s : State, s.links.u.txQueue.length ≤ 8 →
    let free := 8 - s.links.u.txQueue.length
    let ids := (List.finRange 24).filter fun i => (s.status i).report
    let alm := fun i : AlarmId => (⟨composeFrame 0x74 (BitVec.ofNat 8 s.station)
      [ wordOfNat i
        , wordOfNat (((s.entry? i).map (·.severity)).getD (s.definition i).severity).code
        , almFlags (s.entry? i).isSome (s.status i).condition ((s.entry? i).any (·.acked)) (s.status i).forced
        , ((((s.entry? i).map (·.raised)).getD (s.status i).lastRaise) >>> 16).setWidth 16
        , (((s.entry? i).map (·.raised)).getD (s.status i).lastRaise).setWidth 16
        , (s.status i).occurred.setWidth 16 ], .alarm⟩ : TxFrame)
    let t := s.settle
    (∀ i, (t.status i).report = decide (i ∈ ids.drop free))
    ∧ (∀ i, { t.status i with report := (s.status i).report } = s.status i)
    ∧ (∀ words restart, s.mgmt.unit = .replying words restart → ids.length < free →
        t.links.u.txQueue = s.links.u.txQueue ++ ids.map alm
          ++ [⟨composeFrame 0xB6 (BitVec.ofNat 8 s.station) words, if restart then .restartReply else .reply⟩]
        ∧ t.mgmt.unit = if restart then .restartPlaced else .free)
    ∧ ((∀ words restart, s.mgmt.unit ≠ .replying words restart) ∨ free ≤ ids.length →
        t.links.u.txQueue = s.links.u.txQueue ++ (ids.take free).map alm ∧ t.mgmt.unit = s.mgmt.unit)

/-- WATCHDOG_EXPIRY at the end of the period in force: EXPIRED, LINK_UP_LOST present, the cycle timer started, the
edge memory NONE; EXPIRED it does not expire again (R18, R20). CYCLE_TIMER_EXPIRY: the timer restarts from now and a
generated operation starts with zero commands, no walk request and no profile request (R63 to R65), its walk stage
being that of any operation (R64, R123 to R130). Where the Governor is busy it waits, and starts at a later
CYCLE_TIMER_EXPIRY that finds the Governor free, before a REF that waits (the model's choice,
notes/assumptions/22.md). -/
def Obligations.WatchdogAndCycleTimerExpire : Prop :=
  (∀ s : State, s.working = true →
    (∀ start, s.links.watchdog = .running start → s.referenceTimeout ≤ since s.now start →
      ∃ t, exec .watchdogExpiry s = .next t
        ∧ Effect [idLinkUpLost] s t
            ((s.setLinks { s.links with watchdog := .expired }).setGov
              { s.gov with cycleTimer := some s.now, edge := .none })
        ∧ Taken s t idLinkUpLost true)
    ∧ (s.links.watchdog = .expired → exec .watchdogExpiry s = .next s))
  ∧ (∀ (order : List Nat) (s : State), s.working = true →
    let due := ∃ start, s.gov.cycleTimer = some start ∧ s.cyclePeriod ≤ since s.now start
    (∀ x, s.gov.op = some x → due → exec (.cycleTimerExpiry order) s =
      .next (s.setGov { s.gov with cycleTimer := some s.now, genWaiting := true }))
    ∧ (s.gov.genWaiting = true → exec (.referenceOperation order) s = .next s)
    ∧ (s.gov.op = none → due ∨ s.gov.genWaiting = true →
      ∃ t op, exec (.cycleTimerExpiry order) s = .next t
        ∧ op.stage = .rope ∧ op.generated = true
        ∧ op.hoistCommand = 0 ∧ op.dragCommand = 0 ∧ op.swingCommand = 0
        ∧ op.profileRequest = 0xFFFF ∧ op.brakeRequest = false
        ∧ op.mode = s.mode ∧ op.derate = s.derate ∧ op.session = t.walk.session
        ∧ t.withAlarmsOf s = { s with gov := { s.gov with
            op := some op, edge := .none, cycleTimer := t.gov.cycleTimer, genWaiting := false } }
        ∧ (due → t.gov.cycleTimer = some s.now) ∧ (¬due → t.gov.cycleTimer = s.gov.cycleTimer)
        ∧ AlarmFrame walkStageIds s t ∧ UnitFollows s t ∧ s.links.u.txQueue <+: t.links.u.txQueue
        ∧ (calm s walkStageIds → stepAgrees s.walk.state s.walk.current →
            StageGoesOn s t s.walk ∧ WalkReferenceFormed s t op.walkRef)))

/-! ### Time, resets, clock and supply (R21, R22, R46, R164, R174 to R178, R191, R192) -/

/-- TIME_BASE_ADVANCE (R22, R46, R57, R174): at work and in a commanded restart the count goes on by one and wraps; at
work a validation reads its next 64 words, the scan, where it is not idle, becomes due in RUN and HALT, and HORN
follows the envelopes; in a power-on or pin reset, without supply and while CLK is stopped the count stands still;
that the registers keep their values without supply is the model's choice (notes/assumptions/12.md). -/
def Obligations.TimeBaseAdvances : Prop :=
  ∀ s : State,
    (s.working = true →
      ∃ t, exec .timeBaseAdvance s = .next t
        ∧ t.image = { s.image with timeBase := s.image.timeBase + 1 }
        ∧ (∀ v, s.mgmt.unit = .validating v →
            t.mgmt.unit = .validating
              { v with
                next := v.next + min 64 (v.page.size - v.next)
                reg := crcOver (s.page v.page).words v.page.size v.next (min 64 (v.page.size - v.next)) v.reg })
        ∧ ((∀ v, s.mgmt.unit ≠ .validating v) → t.mgmt.unit = s.mgmt.unit)
        ∧ t.store.scanDue = (s.store.scan.isSome && decide (s.mode ≠ .loading))
        ∧ t.pins.horn = levelOf (s.alarm.horn.any fun p => hornOn p (since (s.image.timeBase + 1) s.alarm.hornOrigin))
        ∧ { t with
            image := s.image, pins := s.pins, mgmt := { t.mgmt with unit := s.mgmt.unit }
            store := { t.store with scanDue := s.store.scanDue } } = s)
    ∧ (∀ k, s.phase = .restarting k → s.clk = true →
        exec .timeBaseAdvance s = .next
          { s with phase := .restarting true, image := { s.image with timeBase := s.image.timeBase + 1 } })
    ∧ (s.clk = false ∨ s.phase = .off ∨ (∃ k, s.phase = .resetting k) → exec .timeBaseAdvance s = .next s)

/-- POWER_ON_RESET and PIN_RESET (R21, R175, R191, R192): in effect from any state, a pin reset only after 2 us of
RSTN low and never within a power-on or pin reset; the lines go low, both transmitters to rest, and every queue is
empty. The model's choices: POWER_ON_RESET is taken in every phase (notes/assumptions/11.md), the values shown before
the reset ends (notes/assumptions/10.md), and the loss of a REF that waits at the Router (notes/assumptions/26.md).
RESET_END of a power-on or pin reset (R21, R34, R60, R77, R142, R164, R174, R175, R176, R179, R191): the station from
the straps, the reset cause, and every block at its reset values. -/
def Obligations.ResetTakesEffectAndEnds : Prop :=
  (∀ (c : Instr) (k : ResetKind) (s : State),
    (c = .powerOnReset ∧ k = .powerOn) ∨
      (∃ ns, c = .pinReset ns ∧ k = .pin ∧ 2000 ≤ ns ∧ (s.phase = .working ∨ ∃ b, s.phase = .restarting b)) →
    (∃ t, exec c s = .next t
      ∧ t.phase = .resetting k ∧ t.pending = s.pending ∧ t.clk = s.clk
      ∧ t.pins = ⟨.low, .low, .low, .high, .high⟩
      ∧ (∀ p, (t.port p).tx = none ∧ (t.port p).txQueue = [] ∧ (t.port p).rxQueue = [] ∧ (t.port p).rx = .hunting)
      ∧ t.mgmt.queue = [] ∧ t.mgmt.unit = .free
      ∧ t.mode = .loading ∧ t.alarm.list = [] ∧ t.gov.op = none ∧ t.gov.genWaiting = false
      ∧ t.links.waitingRef = none ∧ t.links.held = [])
    ∧ (∀ ns, ns < 2000 → exec (.pinReset ns) s = .next s)
    ∧ (∀ ns b, s.phase = .resetting b → exec (.pinReset ns) s = .next s))
  ∧ (∀ (k : ResetKind) (straps : BitVec 6) (s : State), s.phase = .resetting k →
    ∃ t, exec (.resetEnd straps) s = .next t
      ∧ t.phase = .working ∧ t.clk = s.clk ∧ t.pending = s.pending
      ∧ t.alarm.resetCause = k
      ∧ t.station = (if straps = 0 then 1 else if straps = 63 then 62 else straps.toNat)
      ∧ t.pins = ⟨.low, .low, .low, .high, .high⟩
      ∧ t.links = ⟨⟨.hunting, [], none, [], ⟨0, 0, 0, 0, 0, 0, 0⟩, 0⟩, ⟨.hunting, [], none, [], ⟨0, 0, 0, 0, 0, 0, 0⟩, 0⟩,
          0, .running 0, none, []⟩
      ∧ t.now = 0
      ∧ (∀ a, t.axis a = ⟨.unmapped, 0, 0, 0, 0, false, false, none, 0, none, none⟩)
      ∧ (∀ id, t.page id = ⟨.empty, []⟩)
      ∧ t.store.active = 0 ∧ t.store.pendingProfile = none ∧ t.store.scan = none ∧ t.store.scanDue = false
      ∧ t.gov.baseHoist = 0 ∧ t.gov.baseDrag = 0 ∧ t.gov.baseSwing = 0 ∧ t.gov.baseWalk = 0
      ∧ t.gov.edge = .none ∧ t.gov.zone = .unknown ∧ t.gov.insideGated = false ∧ t.gov.flags = 0
      ∧ t.gov.cycleTimer = none ∧ t.gov.op = none ∧ t.gov.genWaiting = false
      ∧ t.walk = ⟨.idle, none, [], none, 0, []⟩
      ∧ t.mode = .loading ∧ t.alarm.list = [] ∧ t.alarm.horn = none ∧ t.alarm.hornOrigin = 0
      ∧ (∀ i, t.status i = ⟨false, 0, 0, true, false, false, 0, 0⟩)
      ∧ t.mgmt = ⟨[], .free, 0⟩)

/-- The last byte of the RESTART reply (R17, R21, R35, R61, R76, R77, R142, R164, R178): the commanded restart takes
effect; a REF that waits at the Router is lost with it (the model's choice, notes/assumptions/26.md). While the
commanded restart is in effect a frame is received to its outcome, GOOD, BAD_CHECK, MISFORMED, BAD_LENGTH or
TRUNCATED, which is held (R5 to R7, R21). RESTART_END at the next advance, in LOADING as every commanded restart is
(R8, R9, R21, R25, R35, R165, R178): the cause is COMMANDED, the watchdog starts, CONFIG maps its axes if it is VALID,
the Management Unit is FREE, and each held outcome is counted and evaluated and, if GOOD, offered to the receive
queue, in order. -/
def Obligations.CommandedRestart : Prop :=
  (∀ (sent : Sending) (s : State), s.working = true → s.links.u.tx = some sent → sent.item.origin = .restartReply →
    ∃ t, exec (.transmitComplete .u) s = .next t
      ∧ t.phase = .restarting false ∧ t.pending = s.pending ∧ t.station = s.station ∧ t.now = s.now
      ∧ t.pins = ⟨.low, .low, .low, .high, .high⟩
      ∧ (∀ p, t.port p = ⟨.hunting, [], none, [], (s.port p).counters, 0⟩)
      ∧ t.links.superseded = s.links.superseded ∧ t.links.waitingRef = none ∧ t.links.held = []
      ∧ (∀ a, t.axis a = ⟨.unmapped, 0, 0, 0, 0, false, false, none, (s.axis a).badSamples, none, none⟩)
      ∧ (∀ id, t.page id = s.page id)
      ∧ t.store.active = 0 ∧ t.store.pendingProfile = none ∧ t.store.scan = none ∧ t.store.scanDue = false
      ∧ t.gov.baseHoist = 0 ∧ t.gov.baseDrag = 0 ∧ t.gov.baseSwing = 0 ∧ t.gov.baseWalk = 0
      ∧ t.gov.edge = .none ∧ t.gov.zone = .unknown ∧ t.gov.insideGated = false ∧ t.gov.flags = 0
      ∧ t.gov.cycleTimer = none ∧ t.gov.op = none ∧ t.gov.genWaiting = false
      ∧ t.walk = ⟨.idle, none, [], none, s.walk.queueFull, s.walk.history⟩
      ∧ t.mode = .loading ∧ t.alarm.list = [] ∧ t.derate = 256 ∧ t.alarm.horn = none ∧ t.alarm.hornOrigin = 0
      ∧ (∀ i, t.status i = ⟨false, 0, 0, true, false, false, 0, 0⟩)
      ∧ t.alarm.resetCause = s.alarm.resetCause
      ∧ t.mgmt = s.mgmt)
  ∧ ((∀ (k : Bool) (p : Port) (got bytes : List Byte) (s : State), s.clk = true → s.phase = .restarting k →
    (s.port p).rx = .inFrame got →
    let holds := fun o : RxOutcome =>
      (s.setPort p { s.port p with rx := .hunting }).setLinks
        { (s.setPort p { s.port p with rx := .hunting }).links with held := s.links.held ++ [(p, o)] }
    (∀ f, f.words.length ≤ 60 → 0xC6 :: (got ++ bytes) = f.bytes →
      exec (.frameComplete p bytes) s = .next (holds
        (if f.checkOk = false then .badCheck
          else if p = .u ∧ f.kind = 0x31 ∧ f.words.length ≠ 6 then .misformed else .good f)))
    ∧ (∀ l, (got ++ bytes).length = 3 → (got ++ bytes)[2]? = some l → 60 < l.toNat →
      exec (.badLength p bytes) s = .next (holds .badLength))
    ∧ ∀ ns, 25000 < ns →
      (∀ l, (got ++ bytes)[2]? = some l → l.toNat ≤ 60 ∧ (got ++ bytes).length < 5 + 2 * l.toNat) →
      exec (.truncated p bytes ns) s = .next (holds .truncated))
  ∧ (∀ s : State, s.clk = true → s.phase = .restarting true → s.mode = .loading →
    let of := fun p => s.links.held.filterMap fun x => if x.1 = p then some x.2 else none
    let goods := fun p => (of p).filterMap fun o => match o with | .good f => some f | _ => none
    let room := fun p => (match p with | .u => 4 | .d => 8) - (s.port p).rxQueue.length
    let bad := fun (n : Byte) (o : RxOutcome) => match o with | .good _ => 0 | _ => bump n
    let counted := fun (p : Port) (these : List RxOutcome) (n : Word) => bump^[((of p).filter (· ∈ these)).length] n
    ∃ t, exec .restartEnd s = .next t
      ∧ t.phase = .working ∧ t.clk = true ∧ t.pending = s.pending ∧ t.station = s.station
      ∧ t.alarm.resetCause = .commanded
      ∧ t.links.watchdog = .running s.now ∧ t.links.held = [] ∧ t.links.waitingRef = s.links.waitingRef
      ∧ t.links.superseded = s.links.superseded
      ∧ t.mgmt = { s.mgmt with unit := .free }
      ∧ t.store = s.store ∧ t.gov = s.gov ∧ t.now = s.now ∧ t.mode = .loading ∧ t.walk = s.walk
      ∧ (s.pageValid .config = false → t.image = s.image)
      ∧ (s.pageValid .config = true → ∀ a, t.axis a =
          ⟨.noSample, (cfgStation a).read (s.page .config).words, 0, 0, 0, false, false, none,
            (s.axis a).badSamples, some s.now, none⟩)
      ∧ AlarmFrame [idFrameErrors .u, idFrameErrors .d] { s with alarm := { s.alarm with resetCause := .commanded } } t
      ∧ t.links.d.txQueue = s.links.d.txQueue ∧ s.links.u.txQueue <+: t.links.u.txQueue
      ∧ ∀ p,
          (t.port p).rx = (s.port p).rx ∧ (t.port p).tx = (s.port p).tx
          ∧ (t.port p).rxQueue = (s.port p).rxQueue ++ (goods p).take (room p)
          ∧ (t.port p).consecBad = (of p).foldl bad (s.port p).consecBad
          ∧ (t.port p).counters = { (s.port p).counters with
              good := bump^[(goods p).length] (s.port p).counters.good
              badCheck := counted p [.badCheck] (s.port p).counters.badCheck
              badLength := counted p [.badLength, .misformed] (s.port p).counters.badLength
              truncated := counted p [.truncated] (s.port p).counters.truncated
              overrun := bump^[(goods p).length - room p] (s.port p).counters.overrun }
          ∧ TakenEach s t (idFrameErrors p)
              (((of p).scanl bad (s.port p).consecBad).tail.map fun n => decide (s.frameErrorThreshold ≤ n.toNat))))

/-- CLOCK_STOP, CLOCK_RESTART and SUPPLY_LOSS (R191, R192): while CLK is stopped every command but those of the clock,
the resets and the supply finds the part where it stood; a frame being sent is cut at its partner and kept by the
part, and one being received stays in progress (the model's choices, notes/assumptions/13.md); without supply the part
stops working and stops driving its lines, STOPN being held low by the board (the model's choice,
notes/assumptions/12.md). -/
def Obligations.ClockAndSupply : Prop :=
  ∀ s : State,
    exec .clockStop s = .next { s with
        clk := false
        links := { s.links with
          u := { s.links.u with tx := s.links.u.tx.map fun x => { x with cut := true } }
          d := { s.links.d with tx := s.links.d.tx.map fun x => { x with cut := true } } } }
    ∧ exec .clockRestart s = .next { s with clk := true }
    ∧ exec .supplyLoss s = .next { s with phase := .off, pins := ⟨.released, .released, .low, .released, .released⟩ }
    ∧ ∀ c : Instr, s.clk = false → c ≠ .clockStop → c ≠ .clockRestart → c ≠ .supplyLoss → c ≠ .powerOnReset →
        (∀ ns, c ≠ .pinReset ns) → (∀ straps, c ≠ .resetEnd straps) → exec c s = .next s

/-! ### The reference operation (R62 to R75) -/

/-- REFERENCE_OPERATION: the six payload words become the operation's inputs, saturated, the walk request above 3
taken as NONE; the mode and the derate in force are read; the edge memory takes the walk request, whatever the Walk
Sequencer did with it (R62, R65 to R67, R171). -/
def Obligations.ReferenceOperationStarts : Prop :=
  ∀ (h d w q p o : Word) (f : Frame) (order : List Nat) (s : State), RefStarts s f → f.words = [h, d, w, q, p, o] →
    ∃ t op, exec (.referenceOperation order) s = .next t
      ∧ op.stage = .rope ∧ op.generated = false
      ∧ op.hoistCommand = (if 1000 < h.toInt then 1000 else if h.toInt < -1000 then -1000 else h.toInt)
      ∧ op.dragCommand = (if 1000 < d.toInt then 1000 else if d.toInt < -1000 then -1000 else d.toInt)
      ∧ op.swingCommand = (if 1000 < w.toInt then 1000 else if w.toInt < -1000 then -1000 else w.toInt)
      ∧ op.profileRequest = p ∧ op.brakeRequest = o.getLsbD 0
      ∧ op.mode = s.mode ∧ op.derate = s.derate
      ∧ op.session = t.walk.session
      ∧ t.withAlarmsOf s =
          { s with
            links := { s.links with waitingRef := none }
            gov := { s.gov with
              op := some op
              edge := if q = 1 then .stepFwd else if q = 2 then .stepRev else if q = 3 then .cancel else .none } }
      ∧ AlarmFrame walkStageIds s t ∧ UnitFollows s t ∧ s.links.u.txQueue <+: t.links.u.txQueue

/-- ROPE_STAGE (R69, R70, R92, R95 to R98): from the state the profile request and the switch leave, each reference is
zero or has its command's sign and is at most ⌊L × f / 256⌋, with L the limit for its direction; it is zero in LOADING
and HALT; in RUN from a VALID profile it is the derated clamped command, slewed. -/
def Obligations.RopeStageGoverns : Prop :=
  ∀ (op : Op) (order : List Nat) (s : State), StageNext s op .rope →
    let s2 := (s.profileRequest op.mode op.profileRequest).1.profileSwitch
    let lh := if 0 < op.hoistCommand then s2.limit op .hoistIn else s2.limit op .hoistOut
    let ld := if 0 < op.dragCommand then s2.limit op .dragIn else s2.limit op .dragOut
    ∃ t hoist drag, exec (.ropeStage order) s = .next t
      ∧ t.gov = { s.gov with
          zone := s2.zoneNow
          insideGated := s2.gatedHold
          op := some { op with
            stage := .swing, hoistRef := hoist, dragRef := drag
            hoistLimited := decide (lh < op.hoistCommand.natAbs), dragLimited := decide (ld < op.dragCommand.natAbs) } }
      ∧ (hoist = 0 ∨ hoist.sign = op.hoistCommand.sign) ∧ hoist.natAbs ≤ lh * op.derate / 256
      ∧ (drag = 0 ∨ drag.sign = op.dragCommand.sign) ∧ drag.natAbs ≤ ld * op.derate / 256
      ∧ (op.mode ≠ .run → hoist = 0 ∧ drag = 0)
      ∧ (op.session = true → hoist ≤ 0 ∧ drag ≤ 0)
      ∧ (op.mode = .run → s2.pageValid s2.activePage = true →
          hoist = slewFrom s.gov.baseHoist
            ((clampTo op.hoistCommand (s2.limit op .hoistIn) (s2.limit op .hoistOut) * op.derate).tdiv 256)
            (proHoistSlew.read s2.profileWords)
          ∧ drag = slewFrom s.gov.baseDrag
            ((clampTo op.dragCommand (s2.limit op .dragIn) (s2.limit op .dragOut) * op.derate).tdiv 256)
            (proDragSlew.read s2.profileWords))
      ∧ t.links.d = s.links.d ∧ t.image = s.image ∧ t.mgmt.queue = s.mgmt.queue

/-- Five evaluations of the rope stage (R86, R87, R90, R91, R93); PROFILE_REFUSED is evaluated with the profile
request. -/
def Obligations.RopeStageEvaluates : Prop :=
  ∀ (op : Op) (order : List Nat) (s : State), StageNext s op .rope →
    let s2 := (s.profileRequest op.mode op.profileRequest).1.profileSwitch
    let known := s2.pageValid s2.activePage && decide (s2.image.hoist.state = .fresh)
      && decide (s2.image.drag.state = .fresh)
    let m := s2.profileWords
    let cut := fun (c : Int) (l : Limit) (k : Limit) =>
      c.natAbs - (if 0 < c then s2.limit op l else s2.limit op k)
    let margin := if s2.pageValid s2.activePage then proMargin.read m else 0
    ∃ t, exec (.ropeStage order) s = .next t
      ∧ AlarmFrame [idProfileRefused, idTightline, idTwoBlock, idEnvelopeClamp, idRopeRange, idHoistOverload] s t
      ∧ WalkFollows s t
      ∧ Taken s t idTightline (known && decide (0 < op.hoistCommand) && decide (0 < op.dragCommand)
          && decide (proHoistTightline.read m ≤ s2.image.hoist.tension)
          && decide (proDragTightline.read m ≤ s2.image.drag.tension))
      ∧ Taken s t idTwoBlock (known && decide (s2.zoneNow = .boomtip) && decide (0 < op.hoistCommand))
      ∧ Taken s t idHoistOverload
          (decide (s2.image.hoist.state = .fresh) && decide (s2.overloadTension ≤ s2.image.hoist.tension))
      ∧ Taken s t idEnvelopeClamp (decide (margin < cut op.hoistCommand .hoistIn .hoistOut)
          || decide (margin < cut op.dragCommand .dragIn .dragOut))
      ∧ Taken s t idRopeRange (s2.pageValid s2.activePage
          && ((decide (s2.image.hoist.state = .fresh) && s2.hoistLookup.outside)
            || (decide (s2.image.drag.state = .fresh) && s2.dragLookup.outside)))

/-- The profile request and the switch at a rest point, as the rope stage begins (R53, R54, R56, R59). -/
def Obligations.ProfileRequestAndSwitch : Prop :=
  ∀ (op : Op) (order : List Nat) (s : State), StageNext s op .rope →
    let req := op.profileRequest.toNat
    let ignored := op.mode = .loading ∨ op.profileRequest = 0xFFFF
    let offered := ∃ n : Fin 4, n.val = req ∧ s.pageValid (.profile n) = true
    let rest := s.gov.baseHoist = 0 ∧ s.gov.baseDrag = 0
      ∧ s.image.hoist.state = .fresh ∧ s.image.drag.state = .fresh ∧ s.image.swing.state = .fresh
      ∧ s.image.hoist.speed.natAbs ≤ s.restRopeSpeed ∧ s.image.drag.speed.natAbs ≤ s.restRopeSpeed
      ∧ s.image.swing.speed.natAbs ≤ s.restSwingSpeed
    ∃ t pending, exec (.ropeStage order) s = .next t
      ∧ (ignored → pending = s.store.pendingProfile ∧ Taken s t idProfileRefused false)
      ∧ (¬ignored → req = s.store.active.val → pending = none ∧ Taken s t idProfileRefused false)
      ∧ (¬ignored → req ≠ s.store.active.val → offered →
          pending.map Fin.val = some req ∧ Taken s t idProfileRefused false)
      ∧ (¬ignored → req ≠ s.store.active.val → ¬offered →
          pending = s.store.pendingProfile ∧ Taken s t idProfileRefused true)
      ∧ (∀ n, pending = some n → rest →
          t.store = { s.store with
            active := n, pendingProfile := none
            scan := s.store.scan.map fun _ => ⟨.config, 0, 0xFFFF⟩, scanDue := false })
      ∧ (pending = none ∨ ¬rest → t.store = { s.store with pendingProfile := pending })

/-- SWING_STAGE, forced (R101): zero with the brake request; SWING_GUARD absent; SECTOR_VIOLATION tested only with
SWING FRESH and the profile VALID. SWING_STAGE, not forced (R109, R113 to R117): the reference is zero or has the
command's sign, is at most ⌊L × f / 256⌋, and is the derated clamped command, slewed; no brake request. That R118 does
not force the first operation after a reset where a good sample and a GO come before it is the model's choice
(notes/assumptions/31.md). -/
def Obligations.SwingStageForcesOrGoverns : Prop :=
  (∀ (op : Op) (order : List Nat) (s : State), StageNext s op .swing →
    (s.image.swing.state ≠ .fresh ∨ op.session = true ∨ op.mode ≠ .run ∨ op.brakeRequest = true
      ∨ s.pageValid s.activePage = false) →
    let tested := s.image.swing.state = .fresh ∧ s.pageValid s.activePage = true
    ∃ t, exec (.swingStage order) s = .next t
      ∧ Effect (if tested then [idSwingGuard, idSectorViolation] else [idSwingGuard]) s t
          (s.setGov { s.gov with op := some { op with
            stage := .assembly, swingRef := 0, swingBrake := true, swingLimited := false } })
      ∧ Taken s t idSwingGuard false
      ∧ (tested → Taken s t idSectorViolation s.insideBlocking))
  ∧ (∀ (op : Op) (order : List Nat) (s : State), StageNext s op .swing →
    s.image.swing.state = .fresh → op.session = false → op.mode = .run → op.brakeRequest = false →
    s.pageValid s.activePage = true →
    let l := s.swingLimit op.swingCommand
    let limited := decide (l < op.swingCommand.natAbs)
    ∃ t ref, exec (.swingStage order) s = .next t
      ∧ Effect [idSwingGuard, idSectorViolation] s t
          (s.setGov { s.gov with op := some { op with
            stage := .assembly, swingRef := ref, swingBrake := false, swingLimited := limited } })
      ∧ (ref = 0 ∨ ref.sign = op.swingCommand.sign) ∧ ref.natAbs ≤ l * op.derate / 256
      ∧ ref = slewFrom s.gov.baseSwing ((clampTo op.swingCommand l l * op.derate).tdiv 256)
          (proSwingSlew.read s.profileWords)
      ∧ Taken s t idSectorViolation s.insideBlocking
      ∧ Taken s t idSwingGuard (!s.insideBlocking && limited))

/-- ASSEMBLY (R14, R72 to R75): the outgoing REF replaces a waiting REF in its place, or goes to the head, the newest
of four MREQ giving way; the baselines and the published flags take what it carries; the operation ends. -/
def Obligations.AssemblyPlacesRef : Prop :=
  ∀ (op : Op) (s : State), StageNext s op .assembly →
    let flags := flagWord [op.swingBrake, decide (op.mode = .loading), decide (op.mode = .halt), op.generated,
      op.hoistLimited, op.dragLimited, op.swingLimited, op.session]
    let ref : TxFrame := ⟨composeFrame 0x31 0
      [ wordOf op.hoistRef, wordOf op.dragRef, wordOf op.swingRef, wordOf op.walkRef, flags
        , wordOfNat s.store.active.val, wordOfNat op.derate ], .reference⟩
    let q := s.links.d.txQueue
    let waits := ∃ x ∈ q, x.origin = .reference
    let g : Governor := { s.gov with
      baseHoist := op.hoistRef, baseDrag := op.dragRef, baseSwing := op.swingRef, baseWalk := op.walkRef
      flags := flags, op := none }
    (waits → exec .assembly s = .next ((s.setGov g).setLinks { s.links with
        superseded := bump s.links.superseded
        d := { s.links.d with txQueue := q.map fun x => if x.origin = .reference then ref else x } }))
    ∧ (¬waits → q.length < 4 → exec .assembly s = .next ((s.setGov g).setLinks { s.links with
        d := { s.links.d with txQueue := ref :: q } }))
    ∧ (¬waits → 4 ≤ q.length → exec .assembly s = .next ((s.setGov g).setLinks { s.links with
        d := { s.links.d with
          txQueue := ref :: q.dropLast
          counters := { s.links.d.counters with txDrops := bump s.links.d.counters.txDrops } } }))

/-! ### The walk stage (R121 to R130, R135, R140) -/

/-- A new step request (R124, R126, R127): accepted in RUN with WALK VALID, SWING FRESH and room, it joins the tail
with the house's angle, and a session that it opens takes that angle as its lock angle; refused only for want of room
it counts; the walk stage goes on from there. From IDLE the step is in PREP at once, and with its interlocks met it
starts. -/
def Obligations.StepRequestIsTaken : Prop :=
  ∀ (f : Frame) (order : List Nat) (dir : Direction) (s : State), RefStarts s f →
    (f.words[3]? = some 1 ∧ dir = .forward ∧ s.gov.edge ≠ .stepFwd
      ∨ f.words[3]? = some 2 ∧ dir = .reverse ∧ s.gov.edge ≠ .stepRev) →
    calm s walkStageIds → stepAgrees s.walk.state s.walk.current →
    let angle := s.image.swing.position
    let record : StepRecord := ⟨dir, angle, s.now⟩
    let fit := s.mode = .run ∧ s.pageValid .walk = true ∧ s.image.swing.state = .fresh
    let opens := fit ∧ s.walk.state = .idle ∧ s.walk.queue = []
    ∃ t, exec (.referenceOperation order) s = .next t
      ∧ t.mode = s.mode
      ∧ (fit → s.walk.queue.length < 8 → StageGoesOn s t { s.walk with
          queue := s.walk.queue ++ [record]
          lockAngle := if s.walk.state = .idle ∧ s.walk.queue = [] then some angle else s.walk.lockAngle })
      ∧ (fit → 8 ≤ s.walk.queue.length → StageGoesOn s t { s.walk with queueFull := bump s.walk.queueFull })
      ∧ (¬fit → StageGoesOn s t s.walk)
      ∧ (opens → ¬InterlocksMet s → t.walk = { s.walk with
          state := .prep, current := some ⟨record, s.now, none, none, 0, 0, 0, 0, none⟩, lockAngle := some angle })
      ∧ (opens → InterlocksMet s → t.walk = { s.walk with
          state := .step
          current := some ⟨record, s.now, some (s.camPhase s.image.walk.position), some s.now, 0, 0, 0, 0, none⟩
          lockAngle := some angle })
      ∧ (fit → s.walk.state ≠ .idle → s.walk.queue.length < 8 → ¬Tries s s.walk →
          t.walk = { s.walk with queue := s.walk.queue ++ [record] })
      ∧ (fit → s.walk.state ≠ .idle → 8 ≤ s.walk.queue.length → ¬Tries s s.walk →
          t.walk = { s.walk with queueFull := bump s.walk.queueFull })
      ∧ (¬fit → s.walk.state ≠ .idle ∨ s.mode ≠ .run → ¬Tries s s.walk → t.walk = s.walk)

/-- A new CANCEL (R125, R140): the queue is emptied; a step in PREP, in rest or in P1 ends CANCELLED, one in P2 or P3
is set down, one in P4 runs on, a set-down goes on with its cause; the walk stage then makes its evaluations. -/
def Obligations.CancelActsByPhase : Prop :=
  ∀ (f : Frame) (order : List Nat) (s : State), RefStarts s f → f.words[3]? = some 3 → s.gov.edge ≠ .cancel →
    calm s walkStageIds → stepAgrees s.walk.state s.walk.current →
    let w : WalkSeq := { s.walk with queue := [] }
    ∃ t, exec (.referenceOperation order) s = .next t
      ∧ t.mode = s.mode
      ∧ (s.walk.state = .idle → t.walk = w)
      ∧ (s.walk.state = .prep → t.walk = w.endStep s.now .cancelled)
      ∧ (s.walk.state = .setdown → t.walk = w)
      ∧ (∀ c, s.walk.state = .step → s.walk.current = some c →
          (c.phase = some .rest ∨ c.phase = some .p1 → t.walk = w.endStep s.now .cancelled)
          ∧ (c.phase = some .p2 ∨ c.phase = some .p3 →
              t.walk = { w with state := .setdown, current := some { c with cause := some .cancelled } })
          ∧ (c.phase = some .p4 → t.walk = w))
      ∧ StageGoesOn s t t.walk

/-- The walk stage of an operation that asks for nothing, its request not new or a new NONE (R123, R126 to R129,
R135): IDLE with a record queued in RUN goes to PREP; in PREP the step waits for its interlocks, starts within the
steer tolerance, and otherwise ends STEER_MOVED; the evaluations of the stage follow. -/
def Obligations.StepStartsOrWaits : Prop :=
  ∀ (f : Frame) (order : List Nat) (s : State), RefStarts s f →
    walkRequestOf (f.words.getD 3 0) = s.gov.edge ∨ walkRequestOf (f.words.getD 3 0) = .none →
    calm s walkStageIds → stepAgrees s.walk.state s.walk.current →
    ∃ t, exec (.referenceOperation order) s = .next t ∧ StageGoesOn s t s.walk

/-- The walk reference of an operation, whatever its request (R130): the target by state, phase and direction, slewed
against the walk baseline; 0 while the WALK page is not VALID. -/
def Obligations.WalkReferenceIsSlewed : Prop :=
  ∀ (f : Frame) (order : List Nat) (s : State), RefStarts s f →
    calm s walkStageIds → stepAgrees s.walk.state s.walk.current →
    ∃ t op, exec (.referenceOperation order) s = .next t ∧ t.gov.op = some op ∧ WalkReferenceFormed s t op.walkRef
      ∧ op.session = t.walk.session

/-! ### The arithmetic of the stages (R80 to R91, R97, R102 to R116, R122) -/

/-- Lookup and interpolation (R80, R81, R82): the index and the fraction stay on the grid and locate the payout; the
interpolated limit lies between the nodes' and is a node's own at a node; with a usable table each of the four limits
before the modifiers is interpolated so from the active profile. That the grid settings of every state lie in their
ranges, also those of a page that is not VALID or holds a word outside them, is the model's choice
(notes/assumptions/15.md). -/
def Obligations.EnvelopeLookupAndInterpolation : Prop :=
  (∀ x x0 step n : Nat, 2 ≤ n → 0 < step →
    let r := gridLookup x x0 step n
    r.index ≤ n - 2 ∧ r.fraction ≤ 256
      ∧ (r.outside = true ↔ x < x0 ∨ x0 + (n - 1) * step < x)
      ∧ (x ≤ x0 → r.index = 0 ∧ r.fraction = 0)
      ∧ (x0 + (n - 1) * step ≤ x → r.index = n - 2 ∧ r.fraction = 256)
      ∧ (x0 < x → x < x0 + (n - 1) * step →
          r.index = (x - x0) / step ∧ x0 + r.index * step ≤ x ∧ x < x0 + (r.index + 1) * step
            ∧ r.fraction = (x - x0 - r.index * step) * 256 / step ∧ r.fraction ≤ 255))
  ∧ (∀ l00 l10 l01 l11 fh fd : Nat, fh ≤ 256 → fd ≤ 256 →
    let l := interpolate l00 l10 l01 l11 fh fd
    l = ((l00 * (256 - fh) + l10 * fh) * (256 - fd) + (l01 * (256 - fh) + l11 * fh) * fd) / 65536
      ∧ min (min l00 l10) (min l01 l11) ≤ l ∧ l ≤ max (max l00 l10) (max l01 l11)
      ∧ (fh = 0 → fd = 0 → l = l00) ∧ (fh = 256 → fd = 0 → l = l10)
      ∧ (fh = 0 → fd = 256 → l = l01) ∧ (fh = 256 → fd = 256 → l = l11))
  ∧ ∀ (s : State) (l : Limit),
    let m := s.profileWords
    let h := gridLookup s.image.hoist.position (proH0.read m) (proHstep.read m) (proNH.read m)
    let d := gridLookup s.image.drag.position (proD0.read m) (proDstep.read m) (proND.read m)
    let node := fun i j => (nodeLimit l i j).read m
    s.hoistLookup = h ∧ s.dragLookup = d ∧ 2 ≤ proNH.read m ∧ 0 < proHstep.read m ∧ 2 ≤ proND.read m
      ∧ 0 < proDstep.read m
      ∧ (s.pageValid s.activePage = true → s.image.hoist.state = .fresh → s.image.drag.state = .fresh →
          s.baseLimit l =
            ((node h.index d.index * (256 - h.fraction) + node (h.index + 1) d.index * h.fraction) * (256 - d.fraction)
              + (node h.index (d.index + 1) * (256 - h.fraction)
                + node (h.index + 1) (d.index + 1) * h.fraction) * d.fraction) / 65536)

/-- The modifiers only lower the limits, each the ones it names (R85 to R89). The bucket zone (R83, R84): with a
usable table the class of the node nearest the bucket, a fraction of 128 taking the upper node; UNKNOWN without one.
-/
def Obligations.ModifiersLowerLimits : Prop :=
  (∀ (s : State) (op : Op),
    let known := s.pageValid s.activePage = true ∧ s.image.hoist.state = .fresh ∧ s.image.drag.state = .fresh
    let tight := known ∧ 0 < op.hoistCommand ∧ 0 < op.dragCommand
      ∧ proHoistTightline.read s.profileWords ≤ s.image.hoist.tension
      ∧ proDragTightline.read s.profileWords ≤ s.image.drag.tension
    let heavy := s.image.hoist.state = .fresh ∧ s.overloadTension ≤ s.image.hoist.tension
    let gated := known ∧ s.image.swing.state = .fresh
      ∧ ∃ x ∈ sectorsOf s.profileWords, x.kind = .gated ∧ x.required = s.zoneNow.code
          ∧ angleSub s.image.swing.position x.start < x.width
    let payOut := if s.pageValid .walk = true then s.walkField walkPayOut else 0
    (¬known → ∀ l, s.baseLimit l = if s.pageValid s.activePage = true then proCreep.read s.profileWords else 0)
    ∧ s.limit op .hoistIn = (if heavy ∨ op.session = true then 0 else s.baseLimit .hoistIn)
    ∧ s.limit op .dragIn = (if tight ∨ op.session = true then 0 else s.baseLimit .dragIn)
    ∧ s.limit op .hoistOut = (if gated then 0 else
        if op.session = true then min (s.baseLimit .hoistOut) payOut else s.baseLimit .hoistOut)
    ∧ s.limit op .dragOut =
        (if op.session = true then min (s.baseLimit .dragOut) payOut else s.baseLimit .dragOut))
  ∧ (∀ s : State,
    let m := s.profileWords
    let known := s.pageValid s.activePage = true ∧ s.image.hoist.state = .fresh ∧ s.image.drag.state = .fresh
    let h := s.hoistLookup
    let d := s.dragLookup
    let i := if h.fraction < 128 then h.index else h.index + 1
    let j := if d.fraction < 128 then d.index else d.index + 1
    (known → s.zoneNow = (match (⟨6 + 5 * (j * 16 + i) + 4, .word, 0, 4⟩ : Field).read m with
      | 0 => .ground
      | 1 => .dig
      | 2 => .carry
      | 3 => .clear
      | _ => .boomtip))
    ∧ (¬known → s.zoneNow = .unknown))

/-- The slew step (R97, R116, R130): 0 for a reversal, at most `n` of growth, a decrease at once; never beyond the
value asked for, and never against its sign. Effective deceleration and stopping distance (R102, R103): the quotient
rounded down and raised to 1, and the least distance in which the house can stop at it. -/
def Obligations.SlewAndStoppingDistance : Prop :=
  (∀ (b v : Int) (n : Nat),
    let r := slewFrom b v n
    (v ≠ 0 → b ≠ 0 → v.sign ≠ b.sign → r = 0)
    ∧ (v ≠ 0 → b = 0 ∨ v.sign = b.sign → b.natAbs < v.natAbs →
        r.natAbs = b.natAbs + min (v.natAbs - b.natAbs) n ∧ (r = 0 ∨ r.sign = v.sign))
    ∧ (v = 0 ∨ b = 0 ∨ v.sign = b.sign → v.natAbs ≤ b.natAbs → r = v)
    ∧ r.natAbs ≤ v.natAbs ∧ (r = 0 ∨ r.sign = v.sign))
  ∧ (∀ (s : State) (v : Int) (nominal load tension d : Nat),
    let a := effectiveDeceleration nominal load tension
    a = (if nominal * 4096 / (4096 + load * tension) = 0 then 1 else nominal * 4096 / (4096 + load * tension))
    ∧ (stoppingDistance v a ≤ d ↔ v.natAbs * v.natAbs ≤ 2 * a * d)
    ∧ (stoppingDistance v a = 0 ↔ v = 0)
    ∧ (s.image.hoist.state ≠ .fresh → s.swingTension = 0)
    ∧ (s.image.hoist.state = .fresh → s.swingTension = s.image.hoist.tension)
    ∧ s.stopDistance = stoppingDistance s.image.swing.speed
        (effectiveDeceleration (proNominal.read s.profileWords) (proLoad.read s.profileWords) s.swingTension))

/-- The swing limit (R104, R105, R108 to R112): 0 inside a blocking sector; otherwise the taper toward the nearest
blocking sector ahead where the command follows the motion or starts from rest, the global limit where it does not,
capped by the least speed among the SPEED sectors the house is inside. -/
def Obligations.SwingLimitTapers : Prop :=
  ∀ (c : Int) (s : State),
    let m := s.profileWords
    let angle := s.image.swing.position
    let speed := s.image.swing.speed
    let zone := s.gov.zone
    let below := fun required : Nat => zone = .unknown ∨ zone = .ground ∧ 0 < required ∨ zone = .dig ∧ 1 < required
      ∨ zone = .carry ∧ 2 < required ∨ (zone = .clear ∨ zone = .boomtip) ∧ 3 < required
    let blocks := fun x : Sector => x ∈ sectorsOf m ∧ (x.kind = .hardEnd ∨ x.kind = .gated ∧ below x.required)
    let inside := fun x : Sector => angleSub angle x.start < x.width
    let ahead := fun x : Sector => if 0 < c then angleSub x.start angle
      else angleSub angle ((x.start + x.width - 1) % 36000)
    let follows := c ≠ 0 ∧ (speed = 0 ∨ c.sign = speed.sign)
    let l := s.swingLimit c
    (s.insideBlocking = true ↔ ∃ x, blocks x ∧ inside x)
    ∧ ((∃ x, blocks x ∧ inside x) → l = 0)
    ∧ l ≤ proSwingLimit.read m
    ∧ (∀ x ∈ sectorsOf m, x.kind = .speed → inside x → l ≤ x.speed)
    ∧ ((¬∃ x, blocks x ∧ inside x) →
        ∃ u : Nat, l ≤ u ∧ (l = u ∨ ∃ x ∈ sectorsOf m, x.kind = .speed ∧ inside x ∧ l = x.speed)
        ∧ (¬follows → u = proSwingLimit.read m)
        ∧ (follows → (¬∃ x, blocks x) → u = proSwingLimit.read m)
        ∧ ∀ x, follows → blocks x → (∀ y, blocks y → ahead x ≤ ahead y) →
            let margin : Int := ahead x - s.stopDistance - proGuard.read m
            (margin ≤ 0 → u = 0)
            ∧ (0 < margin → margin < proSlowZone.read m →
                (u : Int) = proSwingLimit.read m * margin / proSlowZone.read m)
            ∧ ((proSlowZone.read m : Int) ≤ margin → u = proSwingLimit.read m))

/-- The circle (R106, R107): a sector is its width of angles from its start, through 0; the distance ahead is the
number of centidegrees to the first angle inside it. -/
def Obligations.SectorGeometry : Prop :=
  ∀ (x : Sector) (angle : Nat), angle < 36000 → x.start < 36000 → 1 ≤ x.width → x.width ≤ 35999 →
    (x.inside angle = true ↔ ∃ k < x.width, angle = (x.start + k) % 36000)
    ∧ x.last = (x.start + x.width - 1) % 36000 ∧ x.inside x.last = true
    ∧ x.inside ((x.start + x.width) % 36000) = false
    ∧ (x.inside angle = false →
        1 ≤ x.ahead angle true ∧ x.ahead angle true ≤ 35999 ∧ (angle + x.ahead angle true) % 36000 = x.start
        ∧ (∀ k < x.ahead angle true, x.inside ((angle + k) % 36000) = false)
        ∧ 1 ≤ x.ahead angle false ∧ x.ahead angle false ≤ 35999
        ∧ (angle + 36000 - x.ahead angle false) % 36000 = x.last
        ∧ ∀ k < x.ahead angle false, x.inside ((angle + 36000 - k) % 36000) = false)

/-! ### The Table Store (R43 to R49, R57, R58) -/

/-- A validation reads every word once, 64 at each advance, and covers every word but the last (R46); an EMPTY page
fails its check word test (R47). -/
def Obligations.ValidationCoversPage : Prop :=
  (∀ (m : Memory) (id : PageId),
    let n := match id with | .config => 1 | .walk => 1 | .alarm => 2 | .profile _ => 22
    let run := fun k => (fun v : CheckRun => v.advance m)^[k] ⟨id, 0, 0xFFFF⟩
    (∀ k < n, (run k).next < id.size)
    ∧ (run n).next = id.size
    ∧ (run n).reg = ((List.range (id.size - 1)).map fun k => Memory.read m k).foldl crcWord 0xFFFF)
  ∧ ∀ id : PageId, ((List.range (id.size - 1)).map fun k => Memory.read [] k).foldl crcWord 0xFFFF ≠ 0

/-- VALIDATION_COMPLETE (R47 to R50): by the check word test, then by the first field in order that fails, the page
goes to WRITTEN or VALID, keeps its contents, and the reply is fixed; CONFIG becoming VALID maps every axis, and no
other page does; the scan restarts where the page is covered (R59). The structure checks (R37 to R41, R48, R189): for
each page its fields in the order of position, each with the offset it is reported by, its range, and the condition
that ties it to fields before it; of a profile the node records with i < NH and j < ND and the sector records below
the count. -/
def Obligations.ValidationGivesOutcome : Prop :=
  (∀ (v : CheckRun) (s : State), s.working = true → s.mgmt.unit = .validating v → v.page.size ≤ v.next →
    (s.page v.page).state = .validating →
    let m := (s.page v.page).words
    let passes := v.reg = Memory.read m (v.page.size - 1)
    let checks := structureChecks s.station m v.page
    ∃ t, exec .validationComplete s = .next t
      ∧ t.gov = s.gov ∧ t.walk = s.walk ∧ t.mode = s.mode ∧ t.alarm.list = s.alarm.list
      ∧ (∀ id, id ≠ v.page → t.page id = s.page id)
      ∧ ScanFollows s t v.page
      ∧ (¬passes → t.page v.page = ⟨.written, m⟩ ∧ Replied s t [5, 7] ∧ t.image = s.image)
      ∧ (∀ before off after, passes → checks = before ++ (off, false) :: after → (∀ x ∈ before, x.2 = true) →
          t.page v.page = ⟨.written, m⟩ ∧ Replied s t [5, 8, wordOfNat off] ∧ t.image = s.image)
      ∧ (passes → (∀ x ∈ checks, x.2 = true) → t.page v.page = ⟨.valid, m⟩ ∧ Replied s t [5, 0]
          ∧ (v.page ≠ .config → t.image = s.image)
          ∧ (v.page = .config → t.now = s.now ∧ ∀ a, t.axis a =
              ⟨.noSample, (cfgStation a).read m, 0, 0, 0, false, false, none, (s.axis a).badSamples, some s.now, none⟩)))
  ∧ (∀ (own : Nat) (m : Memory) (n : Fin 4),
    let w := fun k => (Memory.read m k).toNat
    let within := fun (k lo hi : Nat) => (k, decide (lo ≤ w k ∧ w k ≤ hi))
    let tied := fun (k lo hi : Nat) (cond : Bool) => (k, decide (lo ≤ w k ∧ w k ≤ hi) && cond)
    structureChecks own m .config =
      [ tied 0 1 62 (decide (w 0 ≠ own)), tied 1 1 62 (decide (w 1 ≠ own ∧ w 1 ≠ w 0))
        , tied 2 1 62 (decide (w 2 ≠ own ∧ w 2 ≠ w 0 ∧ w 2 ≠ w 1))
        , tied 3 1 62 (decide (w 3 ≠ own ∧ w 3 ≠ w 0 ∧ w 3 ≠ w 1 ∧ w 3 ≠ w 2))
        , within 4 20 2000, within 5 20 2000, within 6 5 200, within 7 1 255, within 8 100 10000, within 9 0 50
        , within 10 0 300 ]
    ∧ structureChecks own m .alarm = (List.range 24).flatMap (fun i =>
        [ (5 * i, decide (w (5 * i) / 256 ≤ 1)), (5 * i, decide (w (5 * i) % 256 ≤ 1))
          , (5 * i + 1, decide (w (5 * i + 1) / 256 ≤ 1)), (5 * i + 1, decide (w (5 * i + 1) % 256 ≤ 3))
          , (5 * i + 2, decide (1 ≤ w (5 * i + 2) / 256)), (5 * i + 2, true)
          , within (5 * i + 3) 0 15, within (5 * i + 4) 0 256 ])
    ∧ structureChecks own m .walk =
      [ within 0 0 35999, tied 1 0 35999 (decide (w 0 < w 1)), tied 2 0 35999 (decide (w 1 < w 2))
        , tied 3 0 35999 (decide (w 2 < w 3)), tied 4 0 35999 (decide (w 3 < w 4))
        , within 5 0 1000, within 6 0 1000, within 7 0 1000, within 8 0 1000, within 9 100 60000, within 10 100 60000
        , within 11 100 60000, within 12 100 60000, within 13 100 60000
        , (14, decide (1000 ≤ w 14 * 65536 + w 15 ∧ w 14 * 65536 + w 15 ≤ 120000))
        , within 16 10 1000, within 17 0 2000, within 18 0 300, within 19 1 200, within 20 1 1000 ]
    ∧ structureChecks own m (.profile n) =
      [within 0 0 65000, within 1 50 10000, within 2 2 16, within 3 0 65000, within 4 50 10000, within 5 2 16]
      ++ (((List.range 16).filter fun j => decide (j < w 5)).flatMap fun j =>
          ((List.range 16).filter fun i => decide (i < w 2)).flatMap fun i =>
            let k := 6 + 5 * (j * 16 + i)
            [within k 0 1000, within (k + 1) 0 1000, within (k + 2) 0 1000, within (k + 3) 0 1000, within (k + 4) 0 4])
      ++ [ within 1286 0 10000, within 1287 0 10000, within 1288 1 1000, within 1289 1 1000, within 1290 1 1000
          , within 1291 0 200, within 1292 0 1000, within 1293 10 5000, within 1294 0 255, within 1295 0 9000
          , within 1296 100 18000, within 1297 0 1000, within 1298 0 8 ]
      ++ ((List.range 8).filter fun k => decide (k < w 1298)).flatMap fun k =>
          [ within (1299 + 5 * k) 0 35999, within (1300 + 5 * k) 1 35999, within (1301 + 5 * k) 0 2
            , within (1302 + 5 * k) 0 4, within (1303 + 5 * k) 0 1000 ])

/-- SCAN_ADVANCE (R57, R58): the scan reads the next 64 words of the pass, running on into the next covered page and
passing over a page that is not VALID; the first page whose check is wrong goes to FAILED, the pass restarts and
TABLE_CORRUPT is evaluated present; the pass ends with the last word of the last page to be read, and evaluates it
absent unless a covered page is FAILED. A step is FAULTED by the loss of WALK, and by the loss of CONFIG in STEP or
SETDOWN, and the queue emptied (R137, R138), before TABLE_CORRUPT is evaluated (the model's order,
notes/assumptions/18.md). -/
def Obligations.ScanFindsCorruption : Prop :=
  ∀ (id : PageId) (next : Nat) (reg : Word) (s : State), s.working = true → s.mode ≠ .loading →
    s.store.scanDue = true → s.store.scan = some ⟨id, next, reg⟩ → next < id.size →
    (id = .config ∨ id = .alarm ∨ id = .walk ∨ id = s.activePage) →
    let later : List PageId := match id with
      | .config => [.alarm, .walk, s.activePage]
      | .alarm => [.walk, s.activePage]
      | .walk => [s.activePage]
      | .profile _ => []
    let unread := fun (j : PageId) (k : Nat) =>
      if s.pageValid j = true then (List.range (j.size - k)).map fun n => (j, k + n) else []
    let words := unread id next ++ later.flatMap fun j => unread j 0
    let before := fun (j : PageId) (k : Nat) =>
      if j = id then crcOver (s.page j).words j.size next (k - next) reg
      else crcOver (s.page j).words j.size 0 k 0xFFFF
    let right := fun j : PageId => before j j.size = Memory.read (s.page j).words (j.size - 1)
    let allRight := ∀ j : PageId, (j, j.size - 1) ∈ words.take 64 → right j
    (∀ j k, words[64]? = some (j, k) → allRight →
      ∃ t, exec .scanAdvance s = .next t
        ∧ Effect [] s t (s.setStore { s.store with scanDue := false, scan := some ⟨j, k, before j k⟩ }))
    ∧ (allRight → words.length ≤ 64 →
      let u := s.setStore { s.store with scanDue := false, scan := some ⟨.config, 0, 0xFFFF⟩ }
      let failed := ∃ j : PageId, (s.page j).state = .failed
        ∧ (j = .config ∨ j = .alarm ∨ j = .walk ∨ j = s.activePage)
      ∃ t, exec .scanAdvance s = .next t
        ∧ (failed → Effect [] s t u)
        ∧ (¬failed → Effect [idTableCorrupt] s t u ∧ Taken s t idTableCorrupt false))
    ∧ (∀ (j : PageId) (read rest : List (PageId × Nat)), words = read ++ (j, j.size - 1) :: rest → read.length < 64 →
      (∀ i : PageId, (i, i.size - 1) ∈ read → right i) → ¬right j → stepAgrees s.walk.state s.walk.current →
      let faulted : WalkSeq := { s.walk.endStep s.now .faulted with queue := [] }
      let axisLost := j = .config ∧ s.image.walk.state = .fresh ∧ (s.walk.state = .step ∨ s.walk.state = .setdown)
      ∃ t, exec .scanAdvance s = .next t
        ∧ t.page j = ⟨.failed, (s.page j).words⟩ ∧ (∀ i, i ≠ j → t.page i = s.page i)
        ∧ t.store.scan = some ⟨.config, 0, 0xFFFF⟩ ∧ t.store.scanDue = false
        ∧ AlarmFrame [idTableCorrupt, idBrakeSlip] s t
        ∧ (t.status idTableCorrupt).condition = true
        ∧ (j ≠ .alarm → Taken s t idTableCorrupt true)
        ∧ (s.entry? idTableCorrupt = none → (t.entry? idTableCorrupt).isSome = true ∧ t.mode ≠ .run)
        ∧ t.gov = s.gov
        ∧ (j = .walk → t.walk = faulted ∧ (s.walk.session = true → Taken s t idBrakeSlip false))
        ∧ (axisLost → t.walk = faulted ∧ Taken s t idBrakeSlip false)
        ∧ (j ≠ .walk → ¬axisLost → WalkFollows s t)
        ∧ (j ≠ .config → t.image = s.image)
        ∧ (j = .config → ∀ a, (t.axis a).state = .unmapped))

/-- WRITE_PAGE (R43, R44, R55): the first case that applies refuses it and changes nothing; accepted, the words stand
from the offset upward, the others are kept, the page goes to WRITTEN, a pending switch to it is cancelled, and the
scan restarts where a covered page changes state (R59). -/
def Obligations.WritePageStoresWords : Prop :=
  ∀ (idWord off : Word) (data : List Word) (s : State), Serving s 4 (idWord :: off :: data) →
    (∀ j, Memory.wf (s.page j).words) →
    (∀ id, pageOfId idWord.toNat = some id → 1 ≤ data.length → data.length ≤ 56 → off.toNat + data.length ≤ id.size →
      let table := id = .config ∨ id = .alarm ∨ id = .walk
      let used := id = s.activePage ∨ ∃ n, s.store.pendingProfile = some n ∧ id = .profile n
      let moving := (id = .config ∨ id = .walk) ∧ s.walk.state ≠ .idle
      (s.mode = .run → table → AnswersOnly .writePage s [4, 3])
      ∧ (s.mode = .run → ¬table → used → AnswersOnly .writePage s [4, 4])
      ∧ (s.mode ≠ .run → moving → AnswersOnly .writePage s [4, 6])
      ∧ (¬(s.mode = .run ∧ (table ∨ used)) → ¬moving →
        ∃ t, exec .writePage s = .next t ∧ Replied s t [4, 0]
          ∧ (t.page id).state = .written ∧ Memory.wf (t.page id).words
          ∧ (∀ k, Memory.read (t.page id).words k =
              if off.toNat ≤ k ∧ k < off.toNat + data.length then data.getD (k - off.toNat) 0
              else Memory.read (s.page id).words k)
          ∧ (∀ j, j ≠ id → t.page j = s.page j)
          ∧ ScanFollows s t id
          ∧ (∀ n, id = .profile n → s.store.pendingProfile = some n → s.pageValid id = true →
              t.store.pendingProfile = none)
          ∧ t.gov = s.gov ∧ t.mode = s.mode ∧ t.links.d = s.links.d
          ∧ (s.pageValid id = false → t.image = s.image ∧ t.walk = s.walk ∧ AlarmFrame [] s t)
          ∧ (id = .config → s.pageValid id = true → ∀ a, (t.axis a).state = .unmapped)))
    ∧ ((∀ id, pageOfId idWord.toNat = some id →
          ¬(1 ≤ data.length ∧ data.length ≤ 56 ∧ off.toNat + data.length ≤ id.size)) →
        AnswersOnly .writePage s [4, 2])

/-- VALIDATE (R45, R46): refused as WRITE_PAGE is; accepted, the page goes to VALIDATING and the unit is held, its
reply not yet fixed, with the run before word 0; the scan restarts where a covered page changes state (R59). -/
def Obligations.ValidateStartsRun : Prop :=
  ∀ (idWord : Word) (s : State), Serving s 5 [idWord] →
    (pageOfId idWord.toNat = none → AnswersOnly .validate s [5, 2])
    ∧ ∀ id, pageOfId idWord.toNat = some id →
      let table := id = .config ∨ id = .alarm ∨ id = .walk
      let used := id = s.activePage ∨ ∃ n, s.store.pendingProfile = some n ∧ id = .profile n
      let moving := (id = .config ∨ id = .walk) ∧ s.walk.state ≠ .idle
      (s.mode = .run → table → AnswersOnly .validate s [5, 3])
      ∧ (s.mode = .run → ¬table → used → AnswersOnly .validate s [5, 4])
      ∧ (s.mode ≠ .run → moving → AnswersOnly .validate s [5, 6])
      ∧ (¬(s.mode = .run ∧ (table ∨ used)) → ¬moving →
        ∃ t, exec .validate s = .next t
          ∧ t.mgmt.unit = .validating ⟨id, 0, 0xFFFF⟩ ∧ t.mgmt.queue = s.mgmt.queue.tail
          ∧ t.page id = ⟨.validating, (s.page id).words⟩
          ∧ (∀ j, j ≠ id → t.page j = s.page j)
          ∧ ScanFollows s t id
          ∧ t.gov = s.gov ∧ t.mode = s.mode
          ∧ (s.pageValid id = false → t.image = s.image ∧ t.walk = s.walk ∧ AlarmFrame [] s t))

/-! ### Requests (R141, R154, R159 to R163, R166 to R169, R177, R181 to R187) -/

/-- The tests every request passes (R181): no request code, a code outside the catalogue, a wrong number of argument
words; each is answered and changes nothing. CLEAR_COUNTERS (R17, R187): every port counter, the queue-full count and
the discard counter go to 0; the consecutive-bad counts, the bad-sample counters and the occurrence counts stay. -/
def Obligations.MalformedRequestsAndClearCounters : Prop :=
  (∀ (f : Frame) (rest : List Frame) (s : State), s.working = true → s.mgmt.unit = .free → s.mgmt.queue = f :: rest →
    (f.words = [] → AnswersOnly .unknownRequest s [0, 1])
    ∧ (∀ code args, f.words = code :: args → code = 0 ∨ 16 ≤ code.toNat → AnswersOnly .unknownRequest s [code, 1])
    ∧ ∀ (c : Instr) (code : Nat) (args : List Word) (allowed : Nat → Prop), f.words = wordOfNat code :: args →
        ((c, code) ∈ [(.status, 1), (.readImage, 2), (.go, 6), (.halt, 7), (.resume, 8), (.restart, 9),
            (.clearCounters, 15)] ∧ (allowed = fun n => n = 0)
          ∨ (c, code) ∈ [(.validate, 5), (.ackAlarm, 10), (.readAlarms, 11)] ∧ (allowed = fun n => n = 1)
          ∨ (c, code) ∈ [(.readAlarmStatus, 12), (.force, 13)] ∧ (allowed = fun n => n = 2)
          ∨ (c, code) = (.readPage, 3) ∧ (allowed = fun n => n = 3)
          ∨ (c, code) = (.writePage, 4) ∧ (allowed = fun n => 2 ≤ n)
          ∨ (c, code) = (.readWalk, 14) ∧ (allowed = fun n => n = 1 ∨ n = 2)) →
        ¬allowed args.length → AnswersOnly c s [wordOfNat code, 2])
  ∧ (∀ s : State, Serving s 15 [] →
    ∃ t, exec .clearCounters s = .next t ∧ Replied s t [15, 0]
      ∧ t.withAlarmsOf s =
          { s with
            mgmt := { s.mgmt with queue := s.mgmt.queue.tail, discards := 0 }
            links := { s.links with
              superseded := 0
              u := { s.links.u with counters := ⟨0, 0, 0, 0, 0, 0, 0⟩ }
              d := { s.links.d with counters := ⟨0, 0, 0, 0, 0, 0, 0⟩ } } }
      ∧ t.walk = { s.walk with queueFull := 0 }
      ∧ AlarmFrame [] s t ∧ t.alarm.list = s.alarm.list ∧ t.mode = s.mode)

/-- STATUS (R184, R188): 37 data words, in the order of the Formats section. READ_IMAGE (R185, R188): 58 data words:
four records, the time base, the Governor's published values, the counters. -/
def Obligations.StatusAndImageReport : Prop :=
  (∀ s : State, Serving s 1 [] →
    let none16 : Word := 0xFFFF
    let counters := fun c : Counters =>
      [c.good, c.badCheck, c.badLength, c.truncated, c.misdirected, c.overrun, c.txDrops]
    let highest := s.alarm.list.foldl (fun n e => max n (e.severity.code + 1)) 0
    AnswersOnly .status s
      ([1, 0, wordOfNat s.mode.code, wordOfNat s.alarm.resetCause.code, wordOfNat s.station
        , wordOfNat s.store.active.val, (s.store.pendingProfile.map fun n => wordOfNat n.val).getD none16
        , wordOfNat s.store.config.state.code, wordOfNat s.store.alarm.state.code, wordOfNat s.store.walk.state.code
        , wordOfNat (s.page (.profile 0)).state.code, wordOfNat (s.page (.profile 1)).state.code
        , wordOfNat (s.page (.profile 2)).state.code, wordOfNat (s.page (.profile 3)).state.code
        , wordOfNat s.alarm.list.length, if highest = 0 then none16 else wordOfNat (highest - 1)
        , wordOfNat s.derate, wordOfNat s.walk.state.code, wordOfNat s.walk.queue.length
        , (s.now >>> 16).setWidth 16, s.now.setWidth 16, s.mgmt.discards]
      ++ counters s.links.u.counters ++ counters s.links.d.counters
      ++ [s.links.superseded, s.links.u.consecBad.setWidth 16, s.links.d.consecBad.setWidth 16]))
  ∧ (∀ s : State, Serving s 2 [] →
    let counters := fun c : Counters =>
      [c.good, c.badCheck, c.badLength, c.truncated, c.misdirected, c.overrun, c.txDrops]
    let record := fun r : AxisRecord =>
      ([ BitVec.ofNat 8 r.station ++ BitVec.ofNat 8 r.state.code
        , flagWord [r.fault, r.brakeSet], wordOfNat r.position, wordOf r.speed, wordOfNat r.tension
        , ((r.sampleTime.getD 0) >>> 16).setWidth 16, (r.sampleTime.getD 0).setWidth 16, r.badSamples ] : List Word)
    AnswersOnly .readImage s
      (([2, 0] : List Word) ++ record s.image.hoist ++ record s.image.drag ++ record s.image.swing ++ record s.image.walk
      ++ [(s.now >>> 16).setWidth 16, s.now.setWidth 16, wordOfNat s.gov.zone.code
        , if s.gov.insideGated then 1 else 0, s.gov.flags, wordOf s.gov.baseHoist, wordOf s.gov.baseDrag
        , wordOf s.gov.baseSwing, wordOf s.gov.baseWalk]
      ++ counters s.links.u.counters ++ counters s.links.d.counters
      ++ [s.links.superseded, s.links.u.consecBad.setWidth 16, s.links.d.consecBad.setWidth 16]))

/-- READ_PAGE (R186): the stored words, whatever the page's state; BAD_ARGUMENT in its three cases. READ_ALARMS and
READ_ALARM_STATUS (R162, R163, R188). -/
def Obligations.PageAndAlarmReadsReport : Prop :=
  (∀ (idWord off count : Word) (s : State), Serving s 3 [idWord, off, count] →
    (∀ id, pageOfId idWord.toNat = some id → 1 ≤ count.toNat → count.toNat ≤ 58 →
      off.toNat + count.toNat ≤ id.size →
      AnswersOnly .readPage s
        (3 :: 0 :: (List.range count.toNat).map fun k => Memory.read (s.page id).words (off.toNat + k)))
    ∧ ((∀ id, pageOfId idWord.toNat = some id →
          ¬(1 ≤ count.toNat ∧ count.toNat ≤ 58 ∧ off.toNat + count.toNat ≤ id.size)) →
        AnswersOnly .readPage s [3, 2]))
  ∧ (∀ s : State,
    (∀ start, Serving s 11 [start] →
      (start.toNat ≤ 23 →
        AnswersOnly .readAlarms s
          ([11, 0, wordOfNat s.alarm.list.length]
            ++ ((s.alarm.list.drop start.toNat).take 10).flatMap fun e : Entry =>
              [ wordOfNat e.id.val
                , BitVec.ofNat 16 (e.severity.code + 4 * e.latched.toNat + 16 * e.horn.toNat + 256 * e.acked.toNat
                    + 512 * (s.status e.id).condition.toNat + 1024 * (s.status e.id).forced.toNat)
                , wordOfNat e.factor, (e.raised >>> 16).setWidth 16, e.raised.setWidth 16 ]))
      ∧ (24 ≤ start.toNat → AnswersOnly .readAlarms s [11, 2]))
    ∧ ∀ first count, Serving s 12 [first, count] →
      (1 ≤ count.toNat → count.toNat ≤ 16 → first.toNat + count.toNat ≤ 24 →
        AnswersOnly .readAlarmStatus s
          ([12, 0] ++ (((List.finRange 24).drop first.toNat).take count.toNat).flatMap fun i =>
            [ wordOfNat (256 * (s.status i).occurred.toNat + (s.status i).condition.toNat
                + 2 * (s.status i).armed.toNat + 4 * (s.status i).forced.toNat + 8 * (s.status i).report.toNat
                + 16 * (s.entry? i).isSome.toNat)
              , wordOfNat (256 * (s.status i).count.toNat + (s.status i).rearm.toNat)
              , (s.status i).lastRaise.setWidth 16 ]))
      ∧ (¬(1 ≤ count.toNat ∧ count.toNat ≤ 16 ∧ first.toNat + count.toNat ≤ 24) →
        AnswersOnly .readAlarmStatus s [12, 2]))

/-- READ_WALK (R141, R188), with a phase start time of none sent as none in both words (the model's choice,
notes/assumptions/17.md). -/
def Obligations.WalkReadReports : Prop :=
  ∀ s : State,
    let long := fun t : Time => ([(t >>> 16).setWidth 16, t.setWidth 16] : List Word)
    let none16 : Word := 0xFFFF
    let step : List Word := match s.walk.current with
      | none => List.replicate 6 (0 : Word) ++ [none16] ++ List.replicate 10 0 ++ [none16]
      | some c =>
        [wordOfNat c.record.direction.code, wordOfNat c.record.steer] ++ long c.record.requestTime ++ long c.start
        ++ [(c.phase.map fun ph => wordOfNat ph.code).getD none16]
        ++ (c.phaseStart.map long).getD [none16, none16]
        ++ long c.p1 ++ long c.p2 ++ long c.p3 ++ long c.p4
        ++ [(c.cause.map fun x => wordOfNat x.code).getD none16]
    (∀ part more, Serving s 14 (part :: more) → part = 0 → more.length ≤ 1 →
      AnswersOnly .readWalk s
        ([14, 0, wordOfNat s.walk.state.code, (s.walk.lockAngle.map wordOfNat).getD none16, s.walk.queueFull] ++ step
          ++ [wordOfNat s.walk.queue.length]
          ++ s.walk.queue.flatMap fun r => [wordOfNat r.direction.code, wordOfNat r.steer] ++ long r.requestTime))
    ∧ (∀ start : Word, Serving s 14 [1, start] →
      (start.toNat ≤ 7 →
        AnswersOnly .readWalk s
          ([14, 0, wordOfNat s.walk.history.length]
            ++ ((s.walk.history.drop start.toNat).take 4).flatMap fun r =>
              [wordOfNat r.direction.code, wordOfNat r.steer, wordOfNat r.result.code]
              ++ long r.start ++ long r.p1 ++ long r.p2 ++ long r.p3 ++ long r.p4))
      ∧ (8 ≤ start.toNat → AnswersOnly .readWalk s [14, 2]))
    ∧ (Serving s 14 [1] → AnswersOnly .readWalk s [14, 2])
    ∧ ∀ part more, Serving s 14 (part :: more) → more.length ≤ 1 → part ≠ 0 → part ≠ 1 →
      AnswersOnly .readWalk s [14, 2]

/-- GO and RESUME (R161, R166, R169): refused by the first case that applies, changing nothing; accepted, RUN, every
forced flag cleared with its report owed, and after GO the scan's first pass from CONFIG. -/
def Obligations.GoAndResumeEnterRun : Prop :=
  ∀ s : State,
    let ready := s.pageValid .config = true ∧ s.pageValid .alarm = true ∧ s.pageValid .walk = true
      ∧ s.pageValid s.activePage = true
    let stop := ∃ e ∈ s.alarm.list, e.severity = .stop
    let runs := fun t : State =>
      t.mode = .run ∧ t.alarm.list = s.alarm.list ∧ t.walk = s.walk
        ∧ (∀ i, { t.status i with forced := (s.status i).forced, report := (s.status i).report } = s.status i
            ∧ (t.status i).forced = false ∧ ((s.status i).forced = true → Reported s t i))
    (Serving s 6 [] →
      (s.mode ≠ .loading → AnswersOnly .go s [6, 3])
      ∧ (s.mode = .loading → ¬ready → AnswersOnly .go s [6, 5])
      ∧ (s.mode = .loading → ready → stop → AnswersOnly .go s [6, 6])
      ∧ (s.mode = .loading → ready → ¬stop →
        ∃ t, exec .go s = .next t ∧ Replied s t [6, 0] ∧ runs t
          ∧ t.withAlarmsOf s =
            s.tookRequest.setStore { s.store with scan := some ⟨.config, 0, 0xFFFF⟩, scanDue := false }))
    ∧ (Serving s 8 [] →
      (s.mode ≠ .halt → AnswersOnly .resume s [8, 3])
      ∧ (s.mode = .halt → stop → AnswersOnly .resume s [8, 6])
      ∧ (s.mode = .halt → ¬stop → (s.status idLinkUpLost).condition = true → AnswersOnly .resume s [8, 6])
      ∧ (s.mode = .halt → ¬stop → (s.status idLinkUpLost).condition = false → ¬ready → AnswersOnly .resume s [8, 5])
      ∧ (s.mode = .halt → ¬stop → (s.status idLinkUpLost).condition = false → ready →
        ∃ t, exec .resume s = .next t ∧ Replied s t [8, 0] ∧ runs t ∧ t.withAlarmsOf s = s.tookRequest))

/-- HALT (R136, R140, R167): in RUN the mode goes to HALT, the list is left as it was but for the absent evaluation of
SWING_BRAKE_SLIP where it ends a walk session (R140; against R167 the model's choice, notes/assumptions/29.md), and
the Walk Sequencer takes HALT entry by state and phase; in LOADING and HALT nothing changes. RESTART (R177): refused
in RUN and while the Walk Sequencer is not IDLE; accepted, its reply waits or is placed and the request stays in
service. -/
def Obligations.HaltAndRestartRequests : Prop :=
  (∀ s : State, Serving s 7 [] →
    (s.mode ≠ .run → AnswersOnly .halt s [7, 0])
    ∧ (s.mode = .run → stepAgrees s.walk.state s.walk.current →
      let w : WalkSeq := { s.walk with queue := [] }
      ∃ t, exec .halt s = .next t ∧ Replied s t [7, 0]
        ∧ t.mode = .halt ∧ t.withAlarmsOf s = s.tookRequest
        ∧ (¬(s.walk.session = true ∧ t.walk.session = false) → t.alarm.list = s.alarm.list)
        ∧ (∀ i, i ≠ idBrakeSlip → t.entry? i = s.entry? i)
        ∧ (s.walk.session = true → t.walk.session = false → Taken s t idBrakeSlip false)
        ∧ (s.walk.state = .idle → t.walk = w)
        ∧ (s.walk.state = .prep → t.walk = w.endStep s.now .halted)
        ∧ (s.walk.state = .setdown → t.walk = w)
        ∧ ∀ c, s.walk.state = .step → s.walk.current = some c →
          (c.phase = some .rest ∨ c.phase = some .p1 → t.walk = w.endStep s.now .halted)
          ∧ (c.phase = some .p2 ∨ c.phase = some .p3 ∨ c.phase = some .p4 →
              t.walk = { w with state := .setdown, current := some { c with cause := some .halted } })))
  ∧ (∀ s : State, Serving s 9 [] →
    (s.mode = .run → AnswersOnly .restart s [9, 3])
    ∧ (s.mode ≠ .run → s.walk.state ≠ .idle → AnswersOnly .restart s [9, 6])
    ∧ (s.mode ≠ .run → s.walk.state = .idle →
      ∃ t, exec .restart s = .next t ∧ t.withAlarmsOf s = s.tookRequest
        ∧ AlarmFrame [] s t ∧ t.mode = s.mode ∧ t.walk = s.walk ∧ t.alarm.list = s.alarm.list
        ∧ ((t.mgmt.unit = .replying [9, 0] true ∧ 8 ≤ t.links.u.txQueue.length)
          ∨ (t.mgmt.unit = .restartPlaced ∧ t.links.u.txQueue.getLast? =
              some ⟨composeFrame 0xB6 (BitVec.ofNat 8 s.station) [9, 0], .restartReply⟩))))

/-- ACK_ALARM (R153, R154): the entry is acknowledged and, if it is LATCHED with its condition absent, removed; with
0xFF every entry, from head to tail; the reply counts both. -/
def Obligations.AcknowledgementActs : Prop :=
  ∀ (arg : Word) (s : State), Serving s 10 [arg] → (s.alarm.list.map (·.id)).Nodup →
    let leaves := fun e : Entry => !e.acked && e.latched && !(s.status e.id).condition
    (∀ (i : AlarmId) (e : Entry), arg = wordOfNat i.val → s.entry? i = some e →
      ∃ t, exec .ackAlarm s = .next t
        ∧ Replied s t [10, 0, wordOfNat (!e.acked).toNat, wordOfNat (leaves e).toNat]
        ∧ t.withAlarmsOf s = s.tookRequest ∧ AlarmFrame [i] s t ∧ t.mode = s.mode
        ∧ t.entry? i = (if leaves e then none else some { e with acked := true })
        ∧ { t.status i with report := (s.status i).report } = s.status i
        ∧ (e.acked = false → Reported s t i))
    ∧ (∀ i : AlarmId, arg = wordOfNat i.val → s.entry? i = none → AnswersOnly .ackAlarm s [10, 2])
    ∧ (arg = 255 →
      ∃ t, exec .ackAlarm s = .next t
        ∧ Replied s t [10, 0, wordOfNat (s.alarm.list.countP fun e => !e.acked), wordOfNat (s.alarm.list.countP leaves)]
        ∧ t.withAlarmsOf s = s.tookRequest ∧ t.mode = s.mode ∧ t.walk = s.walk
        ∧ t.alarm.list = (s.alarm.list.filter fun e => !leaves e).map (fun e => { e with acked := true })
        ∧ (∀ i, { t.status i with report := (s.status i).report } = s.status i)
        ∧ ∀ e ∈ s.alarm.list, e.acked = false → Reported s t e.id)
    ∧ (24 ≤ arg.toNat → arg ≠ 255 → AnswersOnly .ackAlarm s [10, 2])

/-- FORCE (R159, R160): refused for the fixed IDs, a bad setting and in RUN; on, the flag is set and one present
evaluation is made; off, the flag is cleared and nothing is evaluated. -/
def Obligations.ForceSetsFlag : Prop :=
  ∀ (idWord setting : Word) (s : State), Serving s 13 [idWord, setting] →
    (24 ≤ idWord.toNat ∨ idWord.toNat < 2 ∨ 2 ≤ setting.toNat → AnswersOnly .force s [13, 2])
    ∧ (2 ≤ idWord.toNat → idWord.toNat < 24 → setting.toNat < 2 → s.mode = .run → AnswersOnly .force s [13, 3])
    ∧ ∀ i : AlarmId, i.val = idWord.toNat → 2 ≤ i.val → s.mode ≠ .run →
      (setting = 1 →
        ∃ t, exec .force s = .next t ∧ Replied s t [13, 0] ∧ t.withAlarmsOf s = s.tookRequest
          ∧ AlarmFrame [i] s t ∧ t.mode = s.mode ∧ t.walk = s.walk
          ∧ (t.status i).forced = true ∧ TakenPresent s t i ∧ ((s.status i).forced = false → Reported s t i))
      ∧ (setting = 0 →
        ∃ t, exec .force s = .next t ∧ Replied s t [13, 0] ∧ t.withAlarmsOf s = s.tookRequest
          ∧ AlarmFrame [i] s t ∧ t.mode = s.mode ∧ t.walk = s.walk ∧ t.alarm.list = s.alarm.list
          ∧ { t.status i with forced := (s.status i).forced, report := (s.status i).report } = s.status i
          ∧ (t.status i).forced = false ∧ ((s.status i).forced = true → Reported s t i))

/-! ### Alarms (R143 to R153, R156, R171 to R174) -/

/-- One evaluation (R147 to R153, R156): taken as the rules say, owing a report exactly for a raise, a removal or a
change of its entry's condition; it touches no other ID, but for the end of a walk session at HALT entry. A present
evaluation after an absent one counts 1, and raises no entry unless the qualification count is 1 (R155). -/
def Obligations.EvaluationsAreTaken : Prop :=
  ∀ (i : AlarmId) (present : Bool) (s : State),
    let t := s.evaluate i present
    AlarmFrame [i] s t ∧ WalkFollows s t
    ∧ ((i = idBrakeSlip → t.mode = s.mode) → Taken s t i present)
    ∧ ((i = idBrakeSlip → t.mode = s.mode) →
        (t.status i).report = ((s.status i).report
          || decide (¬(t.entry? i).isSome = (s.entry? i).isSome)
          || ((s.entry? i).isSome && !((t.status i).condition == (s.status i).condition))))
    ∧ (t.mode = s.mode ∨ s.walk.session = false →
        t.alarm.list = s.alarm.list ∨ t.alarm.list = s.alarm.list ++ [entryOf s i]
          ∨ t.alarm.list = s.alarm.list.filter fun e => decide (e.id ≠ i))
    ∧ (i ≠ idBrakeSlip → (s.status i).forced = false →
        let u := (s.evaluate i false).evaluate i true
        (u.status i).condition = true ∧ (u.status i).count = (if (s.definition i).enabled then 1 else 0)
        ∧ (1 < (s.definition i).qualify → s.entry? i = none → u.entry? i = none))

/-- The derate in force (R171) and the sounding entry (R173) of a list. The horn's envelopes (R174): on while every
selected envelope is in the first half of its period, on at the origin, and the same every 1000 ms. The horn envelope
phase (R173, R174): after an evaluation that leaves the mode, and after the acknowledgement of one entry, the pattern
held is that of the sounding entry; the origin becomes the current time base where the pattern changes to another, and
is kept where it stays or the horn falls silent. -/
def Obligations.ListGivesDerateAndHorn : Prop :=
  ((∀ l : List Entry, (∀ e ∈ l, e.factor ≤ 256) →
    ((∀ e ∈ l, e.severity ≠ .derate) → derateOf l = 256)
    ∧ (∀ e ∈ l, e.severity = .derate → derateOf l ≤ e.factor)
    ∧ ((∃ e ∈ l, e.severity = .derate) → ∃ e ∈ l, e.severity = .derate ∧ derateOf l = e.factor)
    ∧ (soundingEntry l = none ↔ ∀ e ∈ l, e.acked = true ∨ e.severity = .info)
    ∧ ∀ e, soundingEntry l = some e →
        ∃ older newer, l = older ++ e :: newer ∧ e.acked = false ∧ e.severity ≠ .info
          ∧ (∀ x ∈ older, x.acked = false → x.severity.code < e.severity.code ∨ x.severity = .info)
          ∧ ∀ x ∈ newer, x.acked = false → x.severity.code ≤ e.severity.code)
  ∧ (∀ (pattern : BitVec 4) (e : Nat),
    (hornOn pattern e = true ↔
      (pattern.getLsbD 0 = true → e % 1000 ≤ 499) ∧ (pattern.getLsbD 1 = true → e % 500 ≤ 249)
        ∧ (pattern.getLsbD 2 = true → e % 250 ≤ 124) ∧ (pattern.getLsbD 3 = true → e % 125 ≤ 62))
    ∧ hornOn pattern 0 = true ∧ hornOn pattern (e + 1000) = hornOn pattern e
    ∧ (pattern = 0 → hornOn pattern e = true)))
  ∧ (∀ s : State, s.alarm.horn = (soundingEntry s.alarm.list).map (·.horn) →
    let follows := fun t : State =>
      t.alarm.horn = (soundingEntry t.alarm.list).map (·.horn)
      ∧ (t.alarm.horn = s.alarm.horn ∨ t.alarm.horn = none → t.alarm.hornOrigin = s.alarm.hornOrigin)
      ∧ (t.alarm.horn ≠ s.alarm.horn → t.alarm.horn ≠ none → t.alarm.hornOrigin = s.now)
    (∀ i present, (s.evaluate i present).mode = s.mode → follows (s.evaluate i present))
    ∧ ∀ i : AlarmId, Serving s 10 [wordOfNat i.val] → ∃ t, exec .ackAlarm s = .next t ∧ follows t)
end

