-- ==== Sys2Proof/Laws/State.lean ====
section
/-! SUPPORT. One lemma per field per update of the state, so that no later proof unfolds a record update. -/

namespace Sys2Proof.Machine


/-! ### State.setLinks -/

@[simp] theorem State.setLinks_pending (s : State) (x : Links) : (s.setLinks x).pending = s.pending := rfl
@[simp] theorem State.setLinks_phase (s : State) (x : Links) : (s.setLinks x).phase = s.phase := rfl
@[simp] theorem State.setLinks_clk (s : State) (x : Links) : (s.setLinks x).clk = s.clk := rfl
@[simp] theorem State.setLinks_station (s : State) (x : Links) : (s.setLinks x).station = s.station := rfl
@[simp] theorem State.setLinks_pins (s : State) (x : Links) : (s.setLinks x).pins = s.pins := rfl
@[simp] theorem State.setLinks_links (s : State) (x : Links) : (s.setLinks x).links = x := rfl
@[simp] theorem State.setLinks_image (s : State) (x : Links) : (s.setLinks x).image = s.image := rfl
@[simp] theorem State.setLinks_store (s : State) (x : Links) : (s.setLinks x).store = s.store := rfl
@[simp] theorem State.setLinks_gov (s : State) (x : Links) : (s.setLinks x).gov = s.gov := rfl
@[simp] theorem State.setLinks_walk (s : State) (x : Links) : (s.setLinks x).walk = s.walk := rfl
@[simp] theorem State.setLinks_alarm (s : State) (x : Links) : (s.setLinks x).alarm = s.alarm := rfl
@[simp] theorem State.setLinks_mgmt (s : State) (x : Links) : (s.setLinks x).mgmt = s.mgmt := rfl
@[simp] theorem State.setLinks_setLinks (s : State) (x y : Links) : (s.setLinks x).setLinks y = s.setLinks y := rfl
@[simp] theorem State.setLinks_self (s : State) : s.setLinks s.links = s := rfl

/-! ### State.setImage -/

@[simp] theorem State.setImage_pending (s : State) (x : Image) : (s.setImage x).pending = s.pending := rfl
@[simp] theorem State.setImage_phase (s : State) (x : Image) : (s.setImage x).phase = s.phase := rfl
@[simp] theorem State.setImage_clk (s : State) (x : Image) : (s.setImage x).clk = s.clk := rfl
@[simp] theorem State.setImage_station (s : State) (x : Image) : (s.setImage x).station = s.station := rfl
@[simp] theorem State.setImage_pins (s : State) (x : Image) : (s.setImage x).pins = s.pins := rfl
@[simp] theorem State.setImage_links (s : State) (x : Image) : (s.setImage x).links = s.links := rfl
@[simp] theorem State.setImage_image (s : State) (x : Image) : (s.setImage x).image = x := rfl
@[simp] theorem State.setImage_store (s : State) (x : Image) : (s.setImage x).store = s.store := rfl
@[simp] theorem State.setImage_gov (s : State) (x : Image) : (s.setImage x).gov = s.gov := rfl
@[simp] theorem State.setImage_walk (s : State) (x : Image) : (s.setImage x).walk = s.walk := rfl
@[simp] theorem State.setImage_alarm (s : State) (x : Image) : (s.setImage x).alarm = s.alarm := rfl
@[simp] theorem State.setImage_mgmt (s : State) (x : Image) : (s.setImage x).mgmt = s.mgmt := rfl
@[simp] theorem State.setImage_setImage (s : State) (x y : Image) : (s.setImage x).setImage y = s.setImage y := rfl
@[simp] theorem State.setImage_self (s : State) : s.setImage s.image = s := rfl

/-! ### State.setStore -/

@[simp] theorem State.setStore_pending (s : State) (x : Store) : (s.setStore x).pending = s.pending := rfl
@[simp] theorem State.setStore_phase (s : State) (x : Store) : (s.setStore x).phase = s.phase := rfl
@[simp] theorem State.setStore_clk (s : State) (x : Store) : (s.setStore x).clk = s.clk := rfl
@[simp] theorem State.setStore_station (s : State) (x : Store) : (s.setStore x).station = s.station := rfl
@[simp] theorem State.setStore_pins (s : State) (x : Store) : (s.setStore x).pins = s.pins := rfl
@[simp] theorem State.setStore_links (s : State) (x : Store) : (s.setStore x).links = s.links := rfl
@[simp] theorem State.setStore_image (s : State) (x : Store) : (s.setStore x).image = s.image := rfl
@[simp] theorem State.setStore_store (s : State) (x : Store) : (s.setStore x).store = x := rfl
@[simp] theorem State.setStore_gov (s : State) (x : Store) : (s.setStore x).gov = s.gov := rfl
@[simp] theorem State.setStore_walk (s : State) (x : Store) : (s.setStore x).walk = s.walk := rfl
@[simp] theorem State.setStore_alarm (s : State) (x : Store) : (s.setStore x).alarm = s.alarm := rfl
@[simp] theorem State.setStore_mgmt (s : State) (x : Store) : (s.setStore x).mgmt = s.mgmt := rfl
@[simp] theorem State.setStore_setStore (s : State) (x y : Store) : (s.setStore x).setStore y = s.setStore y := rfl
@[simp] theorem State.setStore_self (s : State) : s.setStore s.store = s := rfl

/-! ### State.setGov -/

@[simp] theorem State.setGov_pending (s : State) (x : Governor) : (s.setGov x).pending = s.pending := rfl
@[simp] theorem State.setGov_phase (s : State) (x : Governor) : (s.setGov x).phase = s.phase := rfl
@[simp] theorem State.setGov_clk (s : State) (x : Governor) : (s.setGov x).clk = s.clk := rfl
@[simp] theorem State.setGov_station (s : State) (x : Governor) : (s.setGov x).station = s.station := rfl
@[simp] theorem State.setGov_pins (s : State) (x : Governor) : (s.setGov x).pins = s.pins := rfl
@[simp] theorem State.setGov_links (s : State) (x : Governor) : (s.setGov x).links = s.links := rfl
@[simp] theorem State.setGov_image (s : State) (x : Governor) : (s.setGov x).image = s.image := rfl
@[simp] theorem State.setGov_store (s : State) (x : Governor) : (s.setGov x).store = s.store := rfl
@[simp] theorem State.setGov_gov (s : State) (x : Governor) : (s.setGov x).gov = x := rfl
@[simp] theorem State.setGov_walk (s : State) (x : Governor) : (s.setGov x).walk = s.walk := rfl
@[simp] theorem State.setGov_alarm (s : State) (x : Governor) : (s.setGov x).alarm = s.alarm := rfl
@[simp] theorem State.setGov_mgmt (s : State) (x : Governor) : (s.setGov x).mgmt = s.mgmt := rfl
@[simp] theorem State.setGov_setGov (s : State) (x y : Governor) : (s.setGov x).setGov y = s.setGov y := rfl
@[simp] theorem State.setGov_self (s : State) : s.setGov s.gov = s := rfl

/-! ### State.setWalk -/

@[simp] theorem State.setWalk_pending (s : State) (x : WalkSeq) : (s.setWalk x).pending = s.pending := rfl
@[simp] theorem State.setWalk_phase (s : State) (x : WalkSeq) : (s.setWalk x).phase = s.phase := rfl
@[simp] theorem State.setWalk_clk (s : State) (x : WalkSeq) : (s.setWalk x).clk = s.clk := rfl
@[simp] theorem State.setWalk_station (s : State) (x : WalkSeq) : (s.setWalk x).station = s.station := rfl
@[simp] theorem State.setWalk_pins (s : State) (x : WalkSeq) : (s.setWalk x).pins = s.pins := rfl
@[simp] theorem State.setWalk_links (s : State) (x : WalkSeq) : (s.setWalk x).links = s.links := rfl
@[simp] theorem State.setWalk_image (s : State) (x : WalkSeq) : (s.setWalk x).image = s.image := rfl
@[simp] theorem State.setWalk_store (s : State) (x : WalkSeq) : (s.setWalk x).store = s.store := rfl
@[simp] theorem State.setWalk_gov (s : State) (x : WalkSeq) : (s.setWalk x).gov = s.gov := rfl
@[simp] theorem State.setWalk_walk (s : State) (x : WalkSeq) : (s.setWalk x).walk = x := rfl
@[simp] theorem State.setWalk_alarm (s : State) (x : WalkSeq) : (s.setWalk x).alarm = s.alarm := rfl
@[simp] theorem State.setWalk_mgmt (s : State) (x : WalkSeq) : (s.setWalk x).mgmt = s.mgmt := rfl
@[simp] theorem State.setWalk_setWalk (s : State) (x y : WalkSeq) : (s.setWalk x).setWalk y = s.setWalk y := rfl
@[simp] theorem State.setWalk_self (s : State) : s.setWalk s.walk = s := rfl

/-! ### State.setAlarm -/

@[simp] theorem State.setAlarm_pending (s : State) (x : AlarmUnit) : (s.setAlarm x).pending = s.pending := rfl
@[simp] theorem State.setAlarm_phase (s : State) (x : AlarmUnit) : (s.setAlarm x).phase = s.phase := rfl
@[simp] theorem State.setAlarm_clk (s : State) (x : AlarmUnit) : (s.setAlarm x).clk = s.clk := rfl
@[simp] theorem State.setAlarm_station (s : State) (x : AlarmUnit) : (s.setAlarm x).station = s.station := rfl
@[simp] theorem State.setAlarm_pins (s : State) (x : AlarmUnit) : (s.setAlarm x).pins = s.pins := rfl
@[simp] theorem State.setAlarm_links (s : State) (x : AlarmUnit) : (s.setAlarm x).links = s.links := rfl
@[simp] theorem State.setAlarm_image (s : State) (x : AlarmUnit) : (s.setAlarm x).image = s.image := rfl
@[simp] theorem State.setAlarm_store (s : State) (x : AlarmUnit) : (s.setAlarm x).store = s.store := rfl
@[simp] theorem State.setAlarm_gov (s : State) (x : AlarmUnit) : (s.setAlarm x).gov = s.gov := rfl
@[simp] theorem State.setAlarm_walk (s : State) (x : AlarmUnit) : (s.setAlarm x).walk = s.walk := rfl
@[simp] theorem State.setAlarm_alarm (s : State) (x : AlarmUnit) : (s.setAlarm x).alarm = x := rfl
@[simp] theorem State.setAlarm_mgmt (s : State) (x : AlarmUnit) : (s.setAlarm x).mgmt = s.mgmt := rfl
@[simp] theorem State.setAlarm_setAlarm (s : State) (x y : AlarmUnit) : (s.setAlarm x).setAlarm y = s.setAlarm y := rfl
@[simp] theorem State.setAlarm_self (s : State) : s.setAlarm s.alarm = s := rfl

/-! ### State.setMgmt -/

@[simp] theorem State.setMgmt_pending (s : State) (x : Mgmt) : (s.setMgmt x).pending = s.pending := rfl
@[simp] theorem State.setMgmt_phase (s : State) (x : Mgmt) : (s.setMgmt x).phase = s.phase := rfl
@[simp] theorem State.setMgmt_clk (s : State) (x : Mgmt) : (s.setMgmt x).clk = s.clk := rfl
@[simp] theorem State.setMgmt_station (s : State) (x : Mgmt) : (s.setMgmt x).station = s.station := rfl
@[simp] theorem State.setMgmt_pins (s : State) (x : Mgmt) : (s.setMgmt x).pins = s.pins := rfl
@[simp] theorem State.setMgmt_links (s : State) (x : Mgmt) : (s.setMgmt x).links = s.links := rfl
@[simp] theorem State.setMgmt_image (s : State) (x : Mgmt) : (s.setMgmt x).image = s.image := rfl
@[simp] theorem State.setMgmt_store (s : State) (x : Mgmt) : (s.setMgmt x).store = s.store := rfl
@[simp] theorem State.setMgmt_gov (s : State) (x : Mgmt) : (s.setMgmt x).gov = s.gov := rfl
@[simp] theorem State.setMgmt_walk (s : State) (x : Mgmt) : (s.setMgmt x).walk = s.walk := rfl
@[simp] theorem State.setMgmt_alarm (s : State) (x : Mgmt) : (s.setMgmt x).alarm = s.alarm := rfl
@[simp] theorem State.setMgmt_mgmt (s : State) (x : Mgmt) : (s.setMgmt x).mgmt = x := rfl
@[simp] theorem State.setMgmt_setMgmt (s : State) (x y : Mgmt) : (s.setMgmt x).setMgmt y = s.setMgmt y := rfl
@[simp] theorem State.setMgmt_self (s : State) : s.setMgmt s.mgmt = s := rfl

/-! ### State.setPins -/

@[simp] theorem State.setPins_pending (s : State) (x : Pins) : (s.setPins x).pending = s.pending := rfl
@[simp] theorem State.setPins_phase (s : State) (x : Pins) : (s.setPins x).phase = s.phase := rfl
@[simp] theorem State.setPins_clk (s : State) (x : Pins) : (s.setPins x).clk = s.clk := rfl
@[simp] theorem State.setPins_station (s : State) (x : Pins) : (s.setPins x).station = s.station := rfl
@[simp] theorem State.setPins_pins (s : State) (x : Pins) : (s.setPins x).pins = x := rfl
@[simp] theorem State.setPins_links (s : State) (x : Pins) : (s.setPins x).links = s.links := rfl
@[simp] theorem State.setPins_image (s : State) (x : Pins) : (s.setPins x).image = s.image := rfl
@[simp] theorem State.setPins_store (s : State) (x : Pins) : (s.setPins x).store = s.store := rfl
@[simp] theorem State.setPins_gov (s : State) (x : Pins) : (s.setPins x).gov = s.gov := rfl
@[simp] theorem State.setPins_walk (s : State) (x : Pins) : (s.setPins x).walk = s.walk := rfl
@[simp] theorem State.setPins_alarm (s : State) (x : Pins) : (s.setPins x).alarm = s.alarm := rfl
@[simp] theorem State.setPins_mgmt (s : State) (x : Pins) : (s.setPins x).mgmt = s.mgmt := rfl
@[simp] theorem State.setPins_setPins (s : State) (x y : Pins) : (s.setPins x).setPins y = s.setPins y := rfl
@[simp] theorem State.setPins_self (s : State) : s.setPins s.pins = s := rfl

/-! ### State.setPort -/

@[simp] theorem State.setPort_pending (s : State) (p : Port) (x : LinkPort) : (s.setPort p x).pending = s.pending := rfl
@[simp] theorem State.setPort_phase (s : State) (p : Port) (x : LinkPort) : (s.setPort p x).phase = s.phase := rfl
@[simp] theorem State.setPort_clk (s : State) (p : Port) (x : LinkPort) : (s.setPort p x).clk = s.clk := rfl
@[simp] theorem State.setPort_station (s : State) (p : Port) (x : LinkPort) : (s.setPort p x).station = s.station := rfl
@[simp] theorem State.setPort_pins (s : State) (p : Port) (x : LinkPort) : (s.setPort p x).pins = s.pins := rfl
@[simp] theorem State.setPort_image (s : State) (p : Port) (x : LinkPort) : (s.setPort p x).image = s.image := rfl
@[simp] theorem State.setPort_store (s : State) (p : Port) (x : LinkPort) : (s.setPort p x).store = s.store := rfl
@[simp] theorem State.setPort_gov (s : State) (p : Port) (x : LinkPort) : (s.setPort p x).gov = s.gov := rfl
@[simp] theorem State.setPort_walk (s : State) (p : Port) (x : LinkPort) : (s.setPort p x).walk = s.walk := rfl
@[simp] theorem State.setPort_alarm (s : State) (p : Port) (x : LinkPort) : (s.setPort p x).alarm = s.alarm := rfl
@[simp] theorem State.setPort_mgmt (s : State) (p : Port) (x : LinkPort) : (s.setPort p x).mgmt = s.mgmt := rfl

/-! ### State.setAxis -/

@[simp] theorem State.setAxis_pending (s : State) (p : Axis) (x : AxisRecord) : (s.setAxis p x).pending = s.pending := rfl
@[simp] theorem State.setAxis_phase (s : State) (p : Axis) (x : AxisRecord) : (s.setAxis p x).phase = s.phase := rfl
@[simp] theorem State.setAxis_clk (s : State) (p : Axis) (x : AxisRecord) : (s.setAxis p x).clk = s.clk := rfl
@[simp] theorem State.setAxis_station (s : State) (p : Axis) (x : AxisRecord) : (s.setAxis p x).station = s.station := rfl
@[simp] theorem State.setAxis_pins (s : State) (p : Axis) (x : AxisRecord) : (s.setAxis p x).pins = s.pins := rfl
@[simp] theorem State.setAxis_links (s : State) (p : Axis) (x : AxisRecord) : (s.setAxis p x).links = s.links := rfl
@[simp] theorem State.setAxis_store (s : State) (p : Axis) (x : AxisRecord) : (s.setAxis p x).store = s.store := rfl
@[simp] theorem State.setAxis_gov (s : State) (p : Axis) (x : AxisRecord) : (s.setAxis p x).gov = s.gov := rfl
@[simp] theorem State.setAxis_walk (s : State) (p : Axis) (x : AxisRecord) : (s.setAxis p x).walk = s.walk := rfl
@[simp] theorem State.setAxis_alarm (s : State) (p : Axis) (x : AxisRecord) : (s.setAxis p x).alarm = s.alarm := rfl
@[simp] theorem State.setAxis_mgmt (s : State) (p : Axis) (x : AxisRecord) : (s.setAxis p x).mgmt = s.mgmt := rfl

/-! ### State.setStatus -/

@[simp] theorem State.setStatus_pending (s : State) (p : AlarmId) (x : AlarmStatus) : (s.setStatus p x).pending = s.pending := rfl
@[simp] theorem State.setStatus_phase (s : State) (p : AlarmId) (x : AlarmStatus) : (s.setStatus p x).phase = s.phase := rfl
@[simp] theorem State.setStatus_clk (s : State) (p : AlarmId) (x : AlarmStatus) : (s.setStatus p x).clk = s.clk := rfl
@[simp] theorem State.setStatus_station (s : State) (p : AlarmId) (x : AlarmStatus) : (s.setStatus p x).station = s.station := rfl
@[simp] theorem State.setStatus_pins (s : State) (p : AlarmId) (x : AlarmStatus) : (s.setStatus p x).pins = s.pins := rfl
@[simp] theorem State.setStatus_links (s : State) (p : AlarmId) (x : AlarmStatus) : (s.setStatus p x).links = s.links := rfl
@[simp] theorem State.setStatus_image (s : State) (p : AlarmId) (x : AlarmStatus) : (s.setStatus p x).image = s.image := rfl
@[simp] theorem State.setStatus_store (s : State) (p : AlarmId) (x : AlarmStatus) : (s.setStatus p x).store = s.store := rfl
@[simp] theorem State.setStatus_gov (s : State) (p : AlarmId) (x : AlarmStatus) : (s.setStatus p x).gov = s.gov := rfl
@[simp] theorem State.setStatus_walk (s : State) (p : AlarmId) (x : AlarmStatus) : (s.setStatus p x).walk = s.walk := rfl
@[simp] theorem State.setStatus_mgmt (s : State) (p : AlarmId) (x : AlarmStatus) : (s.setStatus p x).mgmt = s.mgmt := rfl

@[simp] theorem State.port_setPort (s : State) (p : Port) (x : LinkPort) : (s.setPort p x).port p = x := by
  cases p <;> rfl

theorem State.port_setPort_ne (s : State) {p q : Port} (x : LinkPort) (h : q ≠ p) : (s.setPort p x).port q = s.port q := by
  cases p <;> cases q <;> first | exact absurd rfl h | rfl

@[simp] theorem State.port_u (s : State) : s.port .u = s.links.u := rfl
@[simp] theorem State.port_d (s : State) : s.port .d = s.links.d := rfl
@[simp] theorem State.setPort_self (s : State) (p : Port) : s.setPort p (s.port p) = s := by cases p <;> rfl
@[simp] theorem State.setPort_superseded (s : State) (p : Port) (x : LinkPort) :
    (s.setPort p x).links.superseded = s.links.superseded := by cases p <;> rfl
@[simp] theorem State.setPort_watchdog (s : State) (p : Port) (x : LinkPort) :
    (s.setPort p x).links.watchdog = s.links.watchdog := by cases p <;> rfl
@[simp] theorem State.setPort_waitingRef (s : State) (p : Port) (x : LinkPort) :
    (s.setPort p x).links.waitingRef = s.links.waitingRef := by cases p <;> rfl
@[simp] theorem State.setPort_held (s : State) (p : Port) (x : LinkPort) :
    (s.setPort p x).links.held = s.links.held := by cases p <;> rfl

@[simp] theorem State.axis_setAxis (s : State) (a : Axis) (r : AxisRecord) : (s.setAxis a r).axis a = r := by
  cases a <;> rfl

theorem State.axis_setAxis_ne (s : State) {a b : Axis} (r : AxisRecord) (h : b ≠ a) :
    (s.setAxis a r).axis b = s.axis b := by
  cases a <;> cases b <;> first | exact absurd rfl h | rfl

@[simp] theorem State.setAxis_now (s : State) (a : Axis) (r : AxisRecord) : (s.setAxis a r).now = s.now := by
  cases a <;> rfl

@[simp] theorem State.status_setStatus (s : State) (i : AlarmId) (x : AlarmStatus) : (s.setStatus i x).status i = x := by
  simp [State.setStatus, State.status]

theorem State.status_setStatus_ne (s : State) {i j : AlarmId} (x : AlarmStatus) (h : j ≠ i) :
    (s.setStatus i x).status j = s.status j := by
  have : (i : Nat) ≠ j := fun e => h (Fin.ext e.symm)
  simp [State.setStatus, State.status, Vector.getElem_set_ne, this]

@[simp] theorem State.setStatus_list (s : State) (i : AlarmId) (x : AlarmStatus) :
    (s.setStatus i x).alarm.list = s.alarm.list := rfl
@[simp] theorem State.setStatus_mode (s : State) (i : AlarmId) (x : AlarmStatus) : (s.setStatus i x).mode = s.mode := rfl
@[simp] theorem State.setStatus_horn (s : State) (i : AlarmId) (x : AlarmStatus) :
    (s.setStatus i x).alarm.horn = s.alarm.horn := rfl
@[simp] theorem State.setStatus_hornOrigin (s : State) (i : AlarmId) (x : AlarmStatus) :
    (s.setStatus i x).alarm.hornOrigin = s.alarm.hornOrigin := rfl
@[simp] theorem State.setStatus_resetCause (s : State) (i : AlarmId) (x : AlarmStatus) :
    (s.setStatus i x).alarm.resetCause = s.alarm.resetCause := rfl
@[simp] theorem State.setStatus_entry? (s : State) (i j : AlarmId) (x : AlarmStatus) :
    (s.setStatus i x).entry? j = s.entry? j := rfl

@[simp] theorem Store.page_setPage (t : Store) (id : PageId) (p : Page) : (t.setPage id p).page id = p := by
  cases id <;> simp [Store.setPage, Store.page]

theorem Store.page_setPage_ne (t : Store) {a b : PageId} (p : Page) (h : b ≠ a) :
    (t.setPage a p).page b = t.page b := by
  cases a <;> cases b <;> first | exact absurd rfl h | rfl | skip
  rename_i m n
  have : (m : Nat) ≠ n := fun e => h (by rw [Fin.ext e])
  simp [Store.setPage, Store.page, Vector.getElem_set_ne, this]

@[simp] theorem Store.setPage_active (t : Store) (id : PageId) (p : Page) : (t.setPage id p).active = t.active := by
  cases id <;> rfl
@[simp] theorem Store.setPage_pendingProfile (t : Store) (id : PageId) (p : Page) :
    (t.setPage id p).pendingProfile = t.pendingProfile := by cases id <;> rfl
@[simp] theorem Store.setPage_scan (t : Store) (id : PageId) (p : Page) : (t.setPage id p).scan = t.scan := by
  cases id <;> rfl
@[simp] theorem Store.setPage_scanDue (t : Store) (id : PageId) (p : Page) : (t.setPage id p).scanDue = t.scanDue := by
  cases id <;> rfl

end Sys2Proof.Machine
end

