-- ==== Sys2Proof/Laws/Alarms.lean ====
section
/-! SUPPORT. What the Alarm Unit's operations can do: an evaluation changes the Alarm Unit and, where it moves RUN to
HALT, the Walk Sequencer; nothing else. -/

namespace Sys2Proof.Machine

/-! ### Operations that change the Alarm Unit only -/

theorem State.hornFollow_frame (s : State) : s.hornFollow = s.setAlarm s.hornFollow.alarm := by
  simp only [State.hornFollow]; split <;> rfl

/-- After a change of the list, the pattern held is the sounding entry's (R173, R174). -/
@[simp] theorem State.hornFollow_horn (s : State) :
    s.hornFollow.alarm.horn = (soundingEntry s.alarm.list).map (·.horn) := by
  simp only [State.hornFollow]; split
  · rename_i h; exact h.symm
  · rfl

@[simp] theorem State.hornFollow_list (s : State) : s.hornFollow.alarm.list = s.alarm.list := by
  simp only [State.hornFollow]; split <;> rfl
@[simp] theorem State.hornFollow_mode (s : State) : s.hornFollow.mode = s.mode := by
  simp only [State.hornFollow]; split <;> rfl
@[simp] theorem State.hornFollow_status (s : State) (i : AlarmId) : s.hornFollow.status i = s.status i := by
  simp only [State.hornFollow]; split <;> rfl
@[simp] theorem State.hornFollow_resetCause (s : State) : s.hornFollow.alarm.resetCause = s.alarm.resetCause := by
  simp only [State.hornFollow]; split <;> rfl

theorem State.rearmTest_frame (s : State) (i : AlarmId) : s.rearmTest i = s.setAlarm (s.rearmTest i).alarm := by
  simp only [State.rearmTest]; split <;> rfl

@[simp] theorem State.rearmTest_list (s : State) (i : AlarmId) : (s.rearmTest i).alarm.list = s.alarm.list := by
  simp only [State.rearmTest]; split <;> rfl
@[simp] theorem State.rearmTest_mode (s : State) (i : AlarmId) : (s.rearmTest i).mode = s.mode := by
  simp only [State.rearmTest]; split <;> rfl
@[simp] theorem State.rearmTest_horn (s : State) (i : AlarmId) : (s.rearmTest i).alarm.horn = s.alarm.horn := by
  simp only [State.rearmTest]; split <;> rfl

theorem State.raise_frame (s : State) (i : AlarmId) : s.raise i = s.setAlarm (s.raise i).alarm := by
  simp only [State.raise]
  rw [State.hornFollow_frame]
  split <;> rfl

/-- A raise appends one entry of the ID at the tail (R151). -/
theorem State.raise_list (s : State) (i : AlarmId) :
    (s.raise i).alarm.list = s.alarm.list ++
      [⟨i, (s.definition i).latched, (s.definition i).severity, (s.definition i).horn, (s.definition i).factor,
        s.now, false⟩] := by
  simp only [State.raise]
  split <;> simp

/-- A raise moves RUN to HALT exactly where the entry is a STOP entry (R168). -/
theorem State.raise_mode (s : State) (i : AlarmId) :
    (s.raise i).mode = if (s.definition i).severity = .stop ∧ s.mode = .run then .halt else s.mode := by
  have h : ∀ x : State, x.alarm.mode = x.mode := fun _ => rfl
  by_cases hc : (s.definition i).severity = .stop ∧ s.mode = .run
  · rw [if_pos hc]
    simp only [State.raise]
    rw [if_pos ⟨hc.1, by rw [State.hornFollow_mode]; exact hc.2⟩]
    rfl
  · rw [if_neg hc]
    simp only [State.raise]
    rw [if_neg (fun h' => hc ⟨h'.1, by rw [State.hornFollow_mode] at h'; exact h'.2⟩), State.hornFollow_mode]
    rfl

theorem State.removeEntry_frame (s : State) (e : Entry) : s.removeEntry e = s.setAlarm (s.removeEntry e).alarm := by
  simp only [State.removeEntry]
  split
  · rw [State.hornFollow_frame]; rfl
  · rw [State.rearmTest_frame, State.hornFollow_frame]; rfl

/-- A removal takes the ID's entry out and keeps the others in order (R152, R153). -/
@[simp] theorem State.removeEntry_list (s : State) (e : Entry) :
    (s.removeEntry e).alarm.list = s.alarm.list.filter fun x => decide (x.id ≠ e.id) := by
  simp only [State.removeEntry]
  split <;> simp

@[simp] theorem State.removeEntry_mode (s : State) (e : Entry) : (s.removeEntry e).mode = s.mode := by
  simp only [State.removeEntry]
  split <;> simp <;> rfl

theorem State.present0_frame (s : State) (i : AlarmId) : s.present0 i = s.setAlarm (s.present0 i).alarm := by
  simp only [State.present0]
  generalize (if (s.definition i).enabled = true then _ else _ : BitVec 8) = n
  split
  · rw [State.raise_frame]; rfl
  · rfl

theorem State.absent0_frame (s : State) (i : AlarmId) : s.absent0 i = s.setAlarm (s.absent0 i).alarm := by
  simp only [State.absent0]
  split
  · exact State.present0_frame s i
  · split
    · rw [State.rearmTest_frame]; rfl
    · split
      · rw [State.rearmTest_frame, State.removeEntry_frame]; rfl
      · rw [State.rearmTest_frame]; rfl

theorem State.evaluate0_frame (s : State) (i : AlarmId) (b : Bool) :
    s.evaluate0 i b = s.setAlarm (s.evaluate0 i b).alarm := by
  cases b
  · exact State.absent0_frame s i
  · exact State.present0_frame s i

/-! ### The mode -/

theorem State.present0_mode (s : State) (i : AlarmId) :
    (s.present0 i).mode = s.mode ∨ (s.mode = .run ∧ (s.present0 i).mode = .halt) := by
  simp only [State.present0]
  generalize (if (s.definition i).enabled = true then _ else _ : BitVec 8) = n
  split
  · rw [State.raise_mode]
    split
    · rename_i h; exact .inr ⟨h.2, rfl⟩
    · exact .inl rfl
  · exact .inl rfl

theorem State.absent0_mode (s : State) (i : AlarmId) :
    (s.absent0 i).mode = s.mode ∨ (s.mode = .run ∧ (s.absent0 i).mode = .halt) := by
  simp only [State.absent0]
  split
  · exact State.present0_mode s i
  · refine .inl ?_
    rw [State.rearmTest_mode]
    split
    · rfl
    · split
      · rw [State.removeEntry_mode]; rfl
      · rfl

theorem State.evaluate0_mode (s : State) (i : AlarmId) (b : Bool) :
    (s.evaluate0 i b).mode = s.mode ∨ (s.mode = .run ∧ (s.evaluate0 i b).mode = .halt) := by
  cases b
  · exact State.absent0_mode s i
  · exact State.present0_mode s i

/-! ### HALT entry and whole evaluations -/

/-- HALT entry changes the Walk Sequencer and, by the end of a session, the Alarm Unit (R136, R140). -/
theorem State.haltEntry_frame (s : State) :
    s.haltEntry = (s.setAlarm s.haltEntry.alarm).setWalk (s.walk.haltEntry s.now) := by
  simp only [State.haltEntry]
  split
  · rw [State.absent0_frame]; rfl
  · rfl

/-- An evaluation changes the Alarm Unit and the Walk Sequencer only (R143, R136). -/
theorem State.evaluate_frame (s : State) (i : AlarmId) (b : Bool) :
    s.evaluate i b = (s.setAlarm (s.evaluate i b).alarm).setWalk (s.evaluate i b).walk := by
  simp only [State.evaluate]
  split
  · rw [State.haltEntry_frame, State.evaluate0_frame]; rfl
  · rw [State.evaluate0_frame]; rfl

/-- The mode stays, or goes from RUN to HALT (R165, R168). -/
theorem State.evaluate_mode (s : State) (i : AlarmId) (b : Bool) :
    (s.evaluate i b).mode = s.mode ∨ (s.mode = .run ∧ (s.evaluate i b).mode = .halt) := by
  simp only [State.evaluate]
  split
  · rename_i h
    refine .inr ⟨h.1, ?_⟩
    simp only [State.haltEntry]
    split
    · rcases State.absent0_mode ((s.evaluate0 i b).setWalk _) idBrakeSlip with e | e
      · rw [e]; exact h.2
      · exact e.2
    · exact h.2
  · exact State.evaluate0_mode s i b

/-- The Walk Sequencer is untouched, or has taken HALT entry where the mode went to HALT (R136). -/
theorem State.evaluate_walk (s : State) (i : AlarmId) (b : Bool) :
    (s.evaluate i b).walk = if (s.evaluate i b).mode = s.mode then s.walk else s.walk.haltEntry s.now := by
  have key := State.evaluate_mode s i b
  simp only [State.evaluate] at key ⊢
  split
  · rename_i h
    rw [if_pos h] at key
    have hne : (s.evaluate0 i b).haltEntry.mode ≠ s.mode := by
      rcases key with e | e
      · intro _
        have : (s.evaluate0 i b).haltEntry.mode = .halt := by
          simp only [State.haltEntry]
          split
          · rcases State.absent0_mode ((s.evaluate0 i b).setWalk _) idBrakeSlip with e' | e'
            · rw [e']; exact h.2
            · exact e'.2
          · exact h.2
        rw [e, h.1] at this
        cases this
      · rw [e.2, h.1]; simp
    rw [if_neg hne, State.haltEntry_frame]
    have hf := State.evaluate0_frame s i b
    have hw : (s.evaluate0 i b).walk = s.walk := by rw [hf]; rfl
    have hn : (s.evaluate0 i b).now = s.now := by rw [hf]; rfl
    simp [hw, hn]
  · rename_i h
    have hw : (s.evaluate0 i b).walk = s.walk := by rw [State.evaluate0_frame]; rfl
    have hm : (s.evaluate0 i b).mode = s.mode := by
      rcases State.evaluate0_mode s i b with e | e
      · exact e
      · exact absurd e h
    rw [if_pos hm, hw]

/-! ### One lemma per field an evaluation leaves alone -/

@[simp] theorem State.evaluate_pending (s : State) (i : AlarmId) (b : Bool) : (s.evaluate i b).pending = s.pending := by
  rw [State.evaluate_frame]; rfl
@[simp] theorem State.evaluate_phase (s : State) (i : AlarmId) (b : Bool) : (s.evaluate i b).phase = s.phase := by
  rw [State.evaluate_frame]; rfl
@[simp] theorem State.evaluate_clk (s : State) (i : AlarmId) (b : Bool) : (s.evaluate i b).clk = s.clk := by
  rw [State.evaluate_frame]; rfl
@[simp] theorem State.evaluate_station (s : State) (i : AlarmId) (b : Bool) : (s.evaluate i b).station = s.station := by
  rw [State.evaluate_frame]; rfl
@[simp] theorem State.evaluate_pins (s : State) (i : AlarmId) (b : Bool) : (s.evaluate i b).pins = s.pins := by
  rw [State.evaluate_frame]; rfl
@[simp] theorem State.evaluate_links (s : State) (i : AlarmId) (b : Bool) : (s.evaluate i b).links = s.links := by
  rw [State.evaluate_frame]; rfl
@[simp] theorem State.evaluate_image (s : State) (i : AlarmId) (b : Bool) : (s.evaluate i b).image = s.image := by
  rw [State.evaluate_frame]; rfl
@[simp] theorem State.evaluate_store (s : State) (i : AlarmId) (b : Bool) : (s.evaluate i b).store = s.store := by
  rw [State.evaluate_frame]; rfl
@[simp] theorem State.evaluate_gov (s : State) (i : AlarmId) (b : Bool) : (s.evaluate i b).gov = s.gov := by
  rw [State.evaluate_frame]; rfl
@[simp] theorem State.evaluate_mgmt (s : State) (i : AlarmId) (b : Bool) : (s.evaluate i b).mgmt = s.mgmt := by
  rw [State.evaluate_frame]; rfl

/-- A run of evaluations changes the Alarm Unit and the Walk Sequencer only. -/
theorem State.evaluateAll_frame (evs : List (AlarmId × Bool)) (s : State) :
    s.evaluateAll evs = (s.setAlarm (s.evaluateAll evs).alarm).setWalk (s.evaluateAll evs).walk := by
  induction evs generalizing s with
  | nil => rfl
  | cons e evs ih =>
    have h := ih (s.evaluate e.1 e.2)
    simp only [State.evaluateAll, List.foldl_cons] at h ⊢
    rw [h, State.evaluate_frame]
    rfl

/-- The evaluations of one event are taken in some order: the arranged list is a permutation (R143). -/
theorem arrange_perm (order : List Nat) (evs : List (AlarmId × Bool)) (h : (evs.map Prod.fst).Nodup) :
    (arrange order evs).Perm evs := by
  induction order generalizing evs with
  | nil => exact .rfl
  | cons i order ih =>
    simp only [arrange]
    split
    · rename_i e he
      have hm : e ∈ evs := List.mem_of_find?_eq_some he
      have hf : ((evs.filter fun x => decide (x.1 ≠ e.1)).map Prod.fst).Nodup :=
        h.sublist (List.Sublist.map _ List.filter_sublist)
      refine List.Perm.trans (List.Perm.cons e (ih _ hf)) ?_
      clear he ih hf
      induction evs with
      | nil => cases hm
      | cons x evs ih =>
        simp only [List.map_cons, List.nodup_cons] at h
        rcases List.mem_cons.mp hm with rfl | hm
        · have : (evs.filter fun y => decide (y.1 ≠ e.1)) = evs := by
            refine List.filter_eq_self.mpr fun y hy => ?_
            have : y.1 ≠ e.1 := fun q => h.1 (q ▸ List.mem_map_of_mem hy)
            simpa using this
          simp only [List.filter_cons, ne_eq, not_true_eq_false, decide_false, Bool.false_eq_true, if_false] at this ⊢
          rw [this]
        · have hx : x.1 ≠ e.1 := fun q => h.1 (q ▸ List.mem_map_of_mem hm)
          simp only [List.filter_cons, ne_eq, hx, not_false_eq_true, decide_true, if_true]
          exact (List.Perm.swap x e _).trans (List.Perm.cons x (ih h.2 hm))
    · exact ih evs h

end Sys2Proof.Machine
end

