-- ==== Sys2Proof/Laws/Frames.lean ====
section
/-! SUPPORT. Bytes and words of a frame (R2, R188): the two ways between them agree. -/

namespace Sys2Proof.Machine

@[simp] theorem ofBytes_hiByte_loByte (w : Word) : ofBytes (hiByte w) (loByte w) = w := by
  apply BitVec.eq_of_getLsbD_eq
  intro i hi
  simp only [ofBytes, hiByte, loByte, BitVec.getLsbD_append, BitVec.getLsbD_setWidth, BitVec.getLsbD_ushiftRight]
  split
  · rename_i h; simp [h]
  · rename_i h
    have h1 : i - 8 < 8 := by omega
    have h2 : 8 + (i - 8) = i := by omega
    simp [h1, h2]

@[simp] theorem bytesOfWords_length (ws : List Word) : (bytesOfWords ws).length = 2 * ws.length := by
  induction ws with
  | nil => rfl
  | cons w ws ih => simp [bytesOfWords] at ih ⊢; omega

@[simp] theorem wordsOfBytes_bytesOfWords (ws : List Word) : wordsOfBytes (bytesOfWords ws) = ws := by
  induction ws with
  | nil => rfl
  | cons w ws ih => simp only [bytesOfWords, List.flatMap_cons] at ih ⊢; simp [wordsOfBytes, ih]

/-- Composed frames pass their own check (R3). -/
@[simp] theorem composeFrame_checkOk (kind station : Byte) (words : List Word) :
    (composeFrame kind station words).checkOk = true := by simp [Frame.checkOk, composeFrame]

end Sys2Proof.Machine
end

