-- ==== Sys2Proof/Laws/Lines.lean ====
section
/-! SUPPORT. What the U-port transmit arbiter and the pins can do after an event (R15, R172): everything `settle` may
change, and what it leaves done. -/

namespace Sys2Proof.Machine

/-- `s` with what an arbiter may change taken from `t`: the pins, the U-port transmit queue, the status records and
what the Management Unit is busy with. -/
def State.arbiterOf (s t : State) : State :=
  { s with
    pins := t.pins
    links := { s.links with u := { s.links.u with txQueue := t.links.u.txQueue } }
    alarm := { s.alarm with status := t.alarm.status }
    mgmt := { s.mgmt with unit := t.mgmt.unit } }

/-- What one grant does (R15): a pending report's frame, lowest ID first, or the waiting reply. -/
theorem State.grant_cases {s t : State} (h : s.grant = some t) :
    (∃ i, s.firstReport = some i ∧ t = s.placeReport i) ∨
    (s.firstReport = none ∧ ∃ words restart, s.mgmt.unit = .replying words restart ∧ t = s.placeReply words restart) := by
  simp only [State.grant] at h
  split at h
  · rename_i i hi
    exact .inl ⟨i, hi, (Option.some.inj h).symm⟩
  · rename_i hn
    split at h
    · rename_i words restart hu
      exact .inr ⟨hn, words, restart, hu, (Option.some.inj h).symm⟩
    all_goals cases h

/-- No grant: no report is pending and no reply waits (R15). -/
theorem State.grant_none {s : State} (h : s.grant = none) :
    (∀ i, (s.status i).report = false) ∧ ∀ words restart, s.mgmt.unit ≠ .replying words restart := by
  simp only [State.grant] at h
  split at h
  · cases h
  · rename_i hn
    refine ⟨fun i => ?_, fun words restart hu => ?_⟩
    · have := List.find?_eq_none.mp hn i (List.mem_finRange i)
      simpa using this
    · rw [hu] at h; cases h

theorem State.grant_frame {s t : State} (h : s.grant = some t) :
    t = s.arbiterOf t ∧ t.links.u.txQueue.length = s.links.u.txQueue.length + 1
      ∧ s.links.u.txQueue <+: t.links.u.txQueue := by
  rcases State.grant_cases h with ⟨i, _, rfl⟩ | ⟨_, words, restart, _, rfl⟩
  · exact ⟨rfl, List.length_append, List.prefix_append _ _⟩
  · exact ⟨rfl, List.length_append, List.prefix_append _ _⟩

/-- The arbiter changes the U-port transmit queue, the status records and the Management Unit's wait only. -/
theorem State.arbitrate_frame (n : Nat) (s : State) :
    State.arbitrate n s = s.arbiterOf (State.arbitrate n s)
      ∧ s.links.u.txQueue <+: (State.arbitrate n s).links.u.txQueue
      ∧ (State.arbitrate n s).links.u.txQueue.length ≤ s.links.u.txQueue.length + n := by
  induction n generalizing s with
  | zero => exact ⟨rfl, List.prefix_rfl, Nat.le_refl _⟩
  | succ n ih =>
    simp only [State.arbitrate]
    split
    · rename_i t ht
      obtain ⟨hf, hl, hp⟩ := State.grant_frame ht
      obtain ⟨ihf, ihp, ihl⟩ := ih t
      refine ⟨?_, hp.trans ihp, by omega⟩
      generalize State.arbitrate n t = r at ihf
      rw [ihf, hf]; rfl
    · exact ⟨rfl, List.prefix_rfl, by omega⟩

/-- Where slots are left over, nothing of the part's own waits any more (R15). -/
theorem State.arbitrate_done (n : Nat) (s : State) :
    (State.arbitrate n s).links.u.txQueue.length = s.links.u.txQueue.length + n ∨
      (State.arbitrate n s).grant = none := by
  induction n generalizing s with
  | zero => exact .inl rfl
  | succ n ih =>
    simp only [State.arbitrate]
    split
    · rename_i t ht
      have hl := (State.grant_frame ht).2.1
      rcases ih t with h | h
      · exact .inl (by omega)
      · exact .inr h
    · rename_i hn
      exact .inr hn

/-- Everything `settle` may change. -/
theorem State.settle_frame (s : State) :
    s.settle = s.arbiterOf s.settle ∧ s.links.u.txQueue <+: s.settle.links.u.txQueue := by
  obtain ⟨hf, hp, _⟩ := State.arbitrate_frame (Config.txCapacityU - (s.port .u).txQueue.length) s
  simp only [State.settle, State.drive]
  refine ⟨?_, hp⟩
  generalize State.arbitrate (Config.txCapacityU - (s.port .u).txQueue.length) s = r at hf
  rw [hf]; rfl

/-- After it the U-port transmit queue is full, or nothing of the part's own waits for it (R15). -/
theorem State.settle_done (s : State) (h : s.links.u.txQueue.length ≤ 8) :
    s.settle.links.u.txQueue.length = 8 ∨
      ((∀ i, (s.settle.status i).report = false) ∧ ∀ words restart, s.settle.mgmt.unit ≠ .replying words restart) := by
  rcases State.arbitrate_done (Config.txCapacityU - (s.port .u).txQueue.length) s with e | e
  · left
    have h8 : Config.txCapacityU = 8 := rfl
    have hq : (s.port .u).txQueue.length = s.links.u.txQueue.length := rfl
    exact (e.trans (by omega) : (State.arbitrate _ s).links.u.txQueue.length = 8)
  · exact .inr (State.grant_none e : _ ∧ ∀ words restart, (State.arbitrate _ s).mgmt.unit ≠ .replying words restart)

/-! ### One lemma per field `settle` leaves alone -/

@[simp] theorem State.settle_pending (s : State) : s.settle.pending = s.pending := by rw [(State.settle_frame s).1]; rfl
@[simp] theorem State.settle_phase (s : State) : s.settle.phase = s.phase := by rw [(State.settle_frame s).1]; rfl
@[simp] theorem State.settle_clk (s : State) : s.settle.clk = s.clk := by rw [(State.settle_frame s).1]; rfl
@[simp] theorem State.settle_station (s : State) : s.settle.station = s.station := by
  rw [(State.settle_frame s).1]; rfl
@[simp] theorem State.settle_image (s : State) : s.settle.image = s.image := by rw [(State.settle_frame s).1]; rfl
@[simp] theorem State.settle_store (s : State) : s.settle.store = s.store := by rw [(State.settle_frame s).1]; rfl
@[simp] theorem State.settle_gov (s : State) : s.settle.gov = s.gov := by rw [(State.settle_frame s).1]; rfl
@[simp] theorem State.settle_walk (s : State) : s.settle.walk = s.walk := by rw [(State.settle_frame s).1]; rfl
@[simp] theorem State.settle_mode (s : State) : s.settle.mode = s.mode := by rw [(State.settle_frame s).1]; rfl
@[simp] theorem State.settle_list (s : State) : s.settle.alarm.list = s.alarm.list := by
  rw [(State.settle_frame s).1]; rfl
@[simp] theorem State.settle_horn (s : State) : s.settle.alarm.horn = s.alarm.horn := by
  rw [(State.settle_frame s).1]; rfl
@[simp] theorem State.settle_resetCause (s : State) : s.settle.alarm.resetCause = s.alarm.resetCause := by
  rw [(State.settle_frame s).1]; rfl
@[simp] theorem State.settle_dPort (s : State) : s.settle.links.d = s.links.d := by
  rw [(State.settle_frame s).1]; rfl
@[simp] theorem State.settle_requests (s : State) : s.settle.mgmt.queue = s.mgmt.queue := by
  rw [(State.settle_frame s).1]; rfl
@[simp] theorem State.settle_discards (s : State) : s.settle.mgmt.discards = s.mgmt.discards := by
  rw [(State.settle_frame s).1]; rfl

/-- The pins are driven from the state that `settle` leaves (R172). -/
theorem State.settle_pins (s : State) : s.settle.pins = s.settle.pinsNow := rfl

end Sys2Proof.Machine
end

