-- ==== Sys2Proof/Laws/Memory.lean ====
section
/-! SUPPORT. The words of a page: reading after a write, and that every write keeps the canonical form. -/

namespace Sys2Proof.Machine

/-- The canonical form, element by element: every offset of the tail lies above the head's. -/
theorem Memory.wf_cons (c : Nat × Word) (m : Memory) :
    Memory.wf (c :: m) ↔ (∀ d ∈ m, c.1 < d.1) ∧ c.2 ≠ 0 ∧ Memory.wf m := by
  simp [Memory.wf, List.pairwise_cons]
  tauto

theorem Memory.wf_nil : Memory.wf [] := by simp [Memory.wf]

/-- Every offset that a write lists was listed before, or is the one written. -/
theorem Memory.mem_write {m : Memory} {a : Nat} {v : Word} {c : Nat × Word} (h : c ∈ Memory.write m a v) :
    c ∈ m ∨ c = (a, v) := by
  induction m with
  | nil => simp only [Memory.write] at h; split at h <;> simp_all
  | cons d m ih =>
    obtain ⟨k, w⟩ := d
    simp only [Memory.write] at h
    split at h
    · split at h <;> simp_all
      tauto
    · split at h
      · split at h <;> simp_all
        tauto
      · rcases List.mem_cons.mp h with rfl | h
        · simp
        · rcases ih h with h | h <;> simp [h]

/-- A write keeps the canonical form. -/
theorem Memory.wf_write {m : Memory} (h : Memory.wf m) (a : Nat) (v : Word) : Memory.wf (Memory.write m a v) := by
  induction m with
  | nil =>
    by_cases hv : v = 0
    · rw [Memory.write, if_pos hv]; exact h
    · rw [Memory.write, if_neg hv]
      exact (Memory.wf_cons _ _).mpr ⟨by simp, hv, Memory.wf_nil⟩
  | cons d m ih =>
    obtain ⟨k, w⟩ := d
    obtain ⟨h1, h2, h3⟩ := (Memory.wf_cons _ _).mp h
    simp only [Memory.write]
    split
    · split
      · exact h
      · rename_i hlt hv
        refine (Memory.wf_cons _ _).mpr ⟨?_, hv, h⟩
        intro e he
        rcases List.mem_cons.mp he with rfl | he
        · exact hlt
        · exact Nat.lt_trans hlt (h1 e he)
    · split
      · rename_i hk
        split
        · exact h3
        · rename_i hv
          refine (Memory.wf_cons _ _).mpr ⟨?_, hv, h3⟩
          intro e he
          simpa [hk] using h1 e he
      · rename_i hlt hne
        refine (Memory.wf_cons _ _).mpr ⟨?_, h2, ih h3⟩
        intro e he
        rcases Memory.mem_write he with he | rfl
        · exact h1 e he
        · exact Nat.lt_of_le_of_ne (Nat.le_of_not_lt hlt) (fun h => hne h.symm)

/-- An offset below every listed one reads 0. -/
theorem Memory.read_below {m : Memory} {a : Nat} (h : ∀ c ∈ m, a < c.1) : Memory.read m a = 0 := by
  induction m with
  | nil => rfl
  | cons d m ih =>
    obtain ⟨k, w⟩ := d
    have hk : a < k := h (k, w) (by simp)
    have : k ≠ a := Nat.ne_of_gt hk
    simp only [Memory.read, this, if_false]
    exact ih fun c hc => h c (by simp [hc])

/-- Reading after a write: the value written at its offset, what stood there at every other. -/
theorem Memory.read_write {m : Memory} (h : Memory.wf m) (a b : Nat) (v : Word) :
    Memory.read (Memory.write m a v) b = if b = a then v else Memory.read m b := by
  induction m with
  | nil =>
    simp only [Memory.write]
    split <;> rename_i hv <;> simp only [Memory.read]
    · split <;> simp [*]
    · by_cases hb : b = a
      · simp [hb]
      · simp [hb, Ne.symm hb]
  | cons d m ih =>
    obtain ⟨k, w⟩ := d
    obtain ⟨h1, h2, h3⟩ := (Memory.wf_cons _ _).mp h
    simp only [Memory.write]
    split
    · rename_i hlt
      have below : Memory.read ((k, w) :: m) a = 0 := by
        refine Memory.read_below ?_
        intro c hc
        rcases List.mem_cons.mp hc with rfl | hc
        · exact hlt
        · exact Nat.lt_trans hlt (h1 c hc)
      split
      · rename_i hv
        by_cases hb : b = a
        · simp [hb, below, hv]
        · simp [hb]
      · rename_i hv
        by_cases hb : b = a
        · simp [hb, Memory.read]
        · simp [hb, Ne.symm hb, Memory.read]
    · split
      · rename_i hk
        subst hk
        have below : Memory.read m a = 0 := Memory.read_below h1
        split
        · rename_i hv
          by_cases hb : b = a
          · simp [hb, below, hv]
          · simp [hb, Ne.symm hb, Memory.read]
        · by_cases hb : b = a
          · simp [hb, Memory.read]
          · simp [hb, Ne.symm hb, Memory.read]
      · rename_i hlt hne
        simp only [Memory.read, ih h3]
        by_cases hb : k = b
        · have : b ≠ a := fun e => hne (by rw [hb, e])
          simp [hb, this]
        · simp [hb]

/-- Storing a run of words keeps the canonical form. -/
theorem Memory.wf_writeFrom {m : Memory} (h : Memory.wf m) (off : Nat) (ws : List Word) :
    Memory.wf (Memory.writeFrom m off ws) := by
  induction ws generalizing m off with
  | nil => exact h
  | cons w ws ih => exact ih (Memory.wf_write h off w) (off + 1)

/-- Every offset that storing a run lists was listed before, or lies in the run. -/
theorem Memory.mem_writeFrom {m : Memory} {off : Nat} {ws : List Word} {c : Nat × Word}
    (h : c ∈ Memory.writeFrom m off ws) : c ∈ m ∨ off ≤ c.1 ∧ c.1 < off + ws.length := by
  induction ws generalizing m off with
  | nil => exact .inl h
  | cons w ws ih =>
    rcases ih h with h | h
    · rcases Memory.mem_write h with h | rfl
      · exact .inl h
      · right; simp
    · right; simp; omega

/-- Reading after storing a run: the words of the run inside it, what stood there outside. -/
theorem Memory.read_writeFrom {m : Memory} (h : Memory.wf m) (off b : Nat) (ws : List Word) :
    Memory.read (Memory.writeFrom m off ws) b =
      if off ≤ b ∧ b < off + ws.length then ws.getD (b - off) 0 else Memory.read m b := by
  induction ws generalizing m off with
  | nil => rw [Memory.writeFrom, if_neg (by simp)]
  | cons w ws ih =>
    simp only [Memory.writeFrom, ih (Memory.wf_write h off w), Memory.read_write h]
    by_cases h1 : b = off
    · subst h1; simp
    · by_cases h2 : off + 1 ≤ b ∧ b < off + 1 + ws.length
      · have h3 : off ≤ b ∧ b < off + (w :: ws).length := by simp; omega
        have h4 : b - off = (b - (off + 1)) + 1 := by omega
        rw [if_pos h2, if_pos h3, h4]; simp
      · have h3 : ¬(off ≤ b ∧ b < off + (w :: ws).length) := by simp; omega
        rw [if_neg h2, if_neg h1, if_neg h3]

end Sys2Proof.Machine
end

