-- ==== Sys2Proof/Laws/Pages.lean ====
section
/-! SUPPORT. What a change of a page's state does (R50, R55, R59, R137, R138, R140). -/

namespace Sys2Proof.Machine

/-- A change of the Walk Sequencer leaves the Table Store, the links, the Governor and the Management Unit alone. -/
theorem State.withWalk_frame (s : State) (w : WalkSeq) :
    s.withWalk w = (s.setAlarm (s.withWalk w).alarm).setWalk (s.withWalk w).walk := by
  simp only [State.withWalk]
  split
  · rw [State.evaluate_frame]; rfl
  · rfl

@[simp] theorem State.withWalk_store (s : State) (w : WalkSeq) : (s.withWalk w).store = s.store := by
  rw [State.withWalk_frame]; rfl
@[simp] theorem State.withWalk_image (s : State) (w : WalkSeq) : (s.withWalk w).image = s.image := by
  rw [State.withWalk_frame]; rfl

theorem State.walkAxisLost_frame (s : State) :
    s.walkAxisLost = (s.setAlarm s.walkAxisLost.alarm).setWalk s.walkAxisLost.walk := by
  simp only [State.walkAxisLost]
  split
  · exact State.withWalk_frame _ _
  · exact State.withWalk_frame _ _
  · rfl
  · rfl

theorem State.mapEnds_frame (s : State) :
    s.mapEnds = ((s.setImage s.image.unmapAll).setAlarm s.mapEnds.alarm).setWalk s.mapEnds.walk := by
  simp only [State.mapEnds]
  split
  · rw [State.walkAxisLost_frame]; rfl
  · rfl

/-- The users of a page that ceases to be VALID change the records, the Alarm Unit, the Walk Sequencer and the pending
profile only (R50, R55). -/
theorem State.pageLost_frame (s : State) (id : PageId) :
    s.pageLost id = { s with
      image := (s.pageLost id).image, alarm := (s.pageLost id).alarm, walk := (s.pageLost id).walk
      store := { s.store with pendingProfile := (s.pageLost id).store.pendingProfile } } := by
  cases id with
  | config => rw [State.pageLost, State.mapEnds_frame]; rfl
  | alarm => rfl
  | walk => rw [State.pageLost, State.walkPageLost, State.withWalk_frame]; rfl
  | profile n => simp only [State.pageLost]; split <;> rfl

theorem State.pageGained_frame (s : State) (id : PageId) :
    s.pageGained id = s.setImage (s.pageGained id).image := by
  cases id <;> rfl

@[simp] theorem Store.restartPass_page (t : Store) (id : PageId) : t.restartPass.page id = t.page id := by
  cases id <;> rfl

/-- The page goes to the state and keeps its contents (R42). -/
theorem State.setPageState_page (s : State) (id : PageId) (st : PageState) :
    (s.setPageState id st).page id = { s.page id with state := st } := by
  have hp : ∀ (t : Store) (p : Option (Fin 4)), ({ t with pendingProfile := p } : Store).page id = t.page id := by
    intro t p; cases id <;> rfl
  have base : ∀ b : Prop, [Decidable b] →
      (if b then (s.store.setPage id { s.page id with state := st }).restartPass
        else s.store.setPage id { s.page id with state := st }).page id = { s.page id with state := st } := by
    intro b _
    split <;> simp
  simp only [State.setPageState]
  split
  · rw [State.pageLost_frame]
    simp only [State.page, hp, State.setStore_store]
    exact base _
  · split
    · rw [State.pageGained_frame]
      simp only [State.page, State.setImage_store, State.setStore_store]
      exact base _
    · simp only [State.page, State.setStore_store]
      exact base _

/-- Every other page is untouched. -/
theorem State.setPageState_page_ne (s : State) (id j : PageId) (st : PageState) (h : j ≠ id) :
    (s.setPageState id st).page j = s.page j := by
  have hp : ∀ (t : Store) (p : Option (Fin 4)), ({ t with pendingProfile := p } : Store).page j = t.page j := by
    intro t p; cases j <;> rfl
  have base : ∀ b : Prop, [Decidable b] →
      (if b then (s.store.setPage id { s.page id with state := st }).restartPass
        else s.store.setPage id { s.page id with state := st }).page j = s.page j := by
    intro b _
    split <;> simp [Store.page_setPage_ne _ _ h, State.page]
  simp only [State.setPageState]
  split
  · rw [State.pageLost_frame]
    simp only [State.page, hp, State.setStore_store]
    exact base _
  · split
    · rw [State.pageGained_frame]
      simp only [State.page, State.setImage_store, State.setStore_store]
      exact base _
    · simp only [State.page, State.setStore_store]
      exact base _

/-- Everything a change of a page's state leaves alone: the commands, phase, station, pins, links, Governor and
Management Unit. -/
theorem State.setPageState_frame (s : State) (id : PageId) (st : PageState) :
    s.setPageState id st = { s with
      image := (s.setPageState id st).image, store := (s.setPageState id st).store
      alarm := (s.setPageState id st).alarm, walk := (s.setPageState id st).walk } := by
  simp only [State.setPageState]
  split
  · rw [State.pageLost_frame]; rfl
  · split
    · rw [State.pageGained_frame]; rfl
    · rfl

end Sys2Proof.Machine
end

