-- ==== Sys2Proof/Laws/Requests.lean ====
section
/-! SUPPORT. What the service of a request can do (R180, R181). -/

namespace Sys2Proof.Machine

/-- The service of the head request: with a number of arguments the catalogue does not allow, BAD_ARGUMENT; else the
owner's rule. -/
theorem State.serve_taken {s : State} {f : Frame} {code : Nat} (allowed : Nat → Bool)
    (owner : List Word → State → State × MgmtUnit) (hw : s.working = true) (hf : s.headRequest = some f)
    (hc : requestCode f = some code) :
    s.serve code allowed owner =
      if allowed f.words.tail.length then
        ((owner f.words.tail s.takeRequest).1.busyWith (owner f.words.tail s.takeRequest).2).settle
      else (s.takeRequest.busyWith (answer code .badArgument [])).settle := by
  simp only [State.serve, State.atWork, hw, hf, hc, if_true]

/-- A service whose moment has not come changes nothing. -/
theorem State.serve_idle {s : State} {code : Nat} (allowed : Nat → Bool)
    (owner : List Word → State → State × MgmtUnit)
    (h : s.working = false ∨ s.headRequest = none ∨ ∃ f, s.headRequest = some f ∧ requestCode f ≠ some code) :
    s.serve code allowed owner = s := by
  simp only [State.serve, State.atWork]
  split
  · rename_i hw
    rcases h with h | h | ⟨f, h, hc⟩
    · rw [h] at hw; cases hw
    · rw [h]
    · simp [h, hc]
  · rfl

end Sys2Proof.Machine
end

