-- ==== Sys2Proof/WellFormed.lean ====
section
/-! DEFINITION. Which commands the outside can send: the shape of a run of received bytes (R2, R5) and of an
order of evaluations (alarm IDs 0..23, none twice: R143). -/

namespace Sys2Proof

/-- An order of evaluations names alarm IDs, each at most once. -/
def orderOk (order : List Nat) : Bool :=
  order.all (· < 24) && decide order.Nodup

/-- The check on each command's operands. -/
def Instr.wellFormed : Instr → Bool
  | .badLength _ bytes => 1 ≤ bytes.length && bytes.length ≤ 3 && bytes.getLast?.any (60 < ·.toNat)
  | .frameComplete _ bytes => 1 ≤ bytes.length && bytes.length ≤ 125
  | .truncated _ bytes _ => bytes.length ≤ 124
  | .routeDFrame _ order => orderOk order
  | .cycleTimerExpiry order => orderOk order
  | .referenceOperation order => orderOk order
  | .ropeStage order => orderOk order
  | .swingStage order => orderOk order
  | .frameStart _ _ => true
  | .routeUFrame => true
  | .feedbackTimerExpiry _ => true
  | .transmitStart _ => true
  | .transmitComplete _ => true
  | .watchdogExpiry => true
  | .assembly => true
  | .scanAdvance => true
  | .validationComplete => true
  | .status => true
  | .readImage => true
  | .readPage => true
  | .writePage => true
  | .validate => true
  | .go => true
  | .halt => true
  | .resume => true
  | .restart => true
  | .ackAlarm => true
  | .readAlarms => true
  | .readAlarmStatus => true
  | .force => true
  | .readWalk => true
  | .clearCounters => true
  | .unknownRequest => true
  | .restartEnd => true
  | .powerOnReset => true
  | .pinReset _ => true
  | .resetEnd _ => true
  | .timeBaseAdvance => true
  | .clockStop => true
  | .clockRestart => true
  | .supplyLoss => true

end Sys2Proof
end

