-- ==== Sys2Proof/Tests/Slice0.lean ====
section
/-! SUPPORT. Tests: the WellFormed smoke tests, single steps whose expected results stand in the spec's worked
examples or follow from a rule by hand, and for every obligation with hypotheses a state that meets them. -/

namespace Sys2Proof.Tests

open Sys2Proof.Machine

/-! ### WellFormed refuses an ill-formed term for each check -/

theorem smoke_badLength_empty : (Instr.badLength .u []).wellFormed = false := by decide
theorem smoke_badLength_long : (Instr.badLength .u [1, 2, 3, 61]).wellFormed = false := by decide
theorem smoke_badLength_at_sixty : (Instr.badLength .u [1, 2, 60]).wellFormed = false := by decide
theorem smoke_badLength_good : (Instr.badLength .u [1, 2, 61]).wellFormed = true := by decide
theorem smoke_frameComplete_empty : (Instr.frameComplete .d []).wellFormed = false := by decide
theorem smoke_frameComplete_long : (Instr.frameComplete .d (List.replicate 126 0)).wellFormed = false := by decide +kernel
theorem smoke_truncated_long : (Instr.truncated .d (List.replicate 125 0) 30000).wellFormed = false := by decide +kernel
theorem smoke_routeDFrame_no_id : (Instr.routeDFrame true [24]).wellFormed = false := by decide
theorem smoke_routeDFrame_twice : (Instr.routeDFrame true [4, 4]).wellFormed = false := by decide
theorem smoke_cycleTimer_no_id : (Instr.cycleTimerExpiry [30]).wellFormed = false := by decide
theorem smoke_referenceOperation_twice : (Instr.referenceOperation [20, 21, 20]).wellFormed = false := by decide
theorem smoke_ropeStage_no_id : (Instr.ropeStage [12, 99]).wellFormed = false := by decide
theorem smoke_swingStage_twice : (Instr.swingStage [17, 17]).wellFormed = false := by decide
theorem smoke_swingStage_good : (Instr.swingStage [18, 17]).wellFormed = true := by decide

/-! ### States -/

/-- What a step answers, seen through a view. -/
def seen {α : Type} (o : Host.Outcome State Fault Refusal) (view : State → α) : Option α :=
  match o with
  | .next t => some (view t)
  | .fault _ => none
  | .refused _ => none

/-- A CONFIG page with the stations 11, 12, 21 and 14. -/
def configWords : Memory :=
  [(0, 11), (1, 12), (2, 21), (3, 14), (4, 60), (5, 50), (6, 20), (7, 2), (8, 3000), (9, 20), (10, 100)]

/-- The words of one ID's record: STALE_DRAG as 8.12 defines it, TIGHTLINE and SWING_GUARD as 11.1 does, ENVELOPE_CLAMP
as 8.11 does, the others SELF, WARN, qualification count 3. -/
def recordWords (i : Nat) : Memory :=
  match i with
  | 5 => [(25, 256), (26, 0x0102), (27, 256), (28, 5), (29, 128)]
  | 12 => [(60, 256), (61, 1), (62, 0x0200), (63, 4)]
  | 14 => [(70, 256), (71, 1), (72, 0x0203), (73, 4)]
  | 17 => [(85, 256), (87, 256)]
  | _ => [(5 * i, 256), (5 * i + 1, 1), (5 * i + 2, 0x0300)]

/-- The ALARM page of the tests. -/
def alarmWords : Memory := (List.range 24).flatMap recordWords

/-- The WALK page of 7.9 and 11.2. -/
def walkWords : Memory :=
  [(0, 2000), (1, 8000), (2, 17000), (3, 26000), (4, 32000), (5, 400), (6, 600), (7, 600), (8, 300), (9, 4000)
    , (10, 8000), (11, 10000), (12, 10000), (13, 8000), (15, 5000), (16, 150), (17, 300), (18, 100), (19, 80)
    , (20, 100)]

/-- The profile of 5.9, 5.10 and 6.9: the nodes (2,2), (3,2), (2,3), (3,3), (0,7) and one HARD_END sector. -/
def profileWords : Memory :=
  [(0, 2000), (1, 1000), (2, 8), (3, 3000), (4, 1500), (5, 8)
    , (176, 800), (177, 500), (178, 900), (179, 600), (180, 1), (181, 600), (182, 500), (183, 900), (184, 600), (185, 2)]
  ++ [(256, 700), (257, 300), (258, 1000), (259, 600), (260, 1), (261, 400), (262, 300), (263, 800), (264, 600)
    , (265, 2), (567, 400), (568, 300), (570, 4)]
  ++ [(1286, 2200), (1287, 2000), (1288, 50), (1289, 40), (1290, 60), (1291, 100), (1292, 150), (1293, 400)
    , (1294, 2), (1295, 500), (1296, 3000), (1297, 1000), (1298, 1), (1299, 14500), (1300, 2000)]

/-- A FRESH record sampled at 700000 ms. -/
def heard (station position : Nat) (speed : Int) (tension : Nat) : AxisRecord :=
  ⟨.fresh, station, position, speed, tension, false, true, some 700000, 0, some 700000, none⟩

/-- The part in RUN at 700000 ms, every page VALID, every axis FRESH: the bucket and house of 5.9 and 6.9. -/
def dig : State :=
  { State.reset with
    image := ⟨700000, heard 11 4350 0 1800, heard 12 7200 0 1400, heard 21 9000 1200 0, heard 14 33500 0 0⟩
    store := { State.reset.store with
      config := ⟨.valid, configWords⟩, alarm := ⟨.valid, alarmWords⟩, walk := ⟨.valid, walkWords⟩
      profiles := State.reset.store.profiles.set 0 ⟨.valid, profileWords⟩, scan := some ⟨.config, 0, 0xFFFF⟩ }
    links := { State.reset.links with watchdog := .running 700000 }
    gov := { State.reset.gov with baseHoist := 400, baseDrag := 380, baseSwing := 700 }
    alarm := { State.reset.alarm with mode := .run }
    pins := ⟨.low, .low, .high, .high, .high⟩ }

/-- An operation of RUN before the given stage, with the three commands and the derate in force. -/
def opAt (stage : OpStage) (hoist drag swing : Int) (derate : Nat) : Op :=
  { stage := stage, generated := false, hoistCommand := hoist, dragCommand := drag, swingCommand := swing
    profileRequest := 0xFFFF, brakeRequest := false, mode := .run, derate := derate, session := false, walkRef := 0
    hoistRef := 0, dragRef := 0, hoistLimited := false, dragLimited := false, swingRef := 0, swingBrake := false
    swingLimited := false }

/-- A state with an operation in progress. -/
def during (s : State) (op : Op) : State := { s with gov := { s.gov with op := some op } }

/-- The bucket grounded and slack, the house at 18200 with the brake set, at the start of 11.2. -/
def grounded : State :=
  { dig with
    image := ⟨700000, heard 11 2000 0 100, heard 12 3000 0 100, heard 21 18200 0 0, heard 14 33500 0 0⟩
    gov := { dig.gov with zone := .ground } }

/-- A REF's payload. -/
def refFrame (walk : Word) : Frame := ⟨0x31, 0, [0, 0, 0, walk, 0xFFFF, 1], 0⟩

/-- A state with a REF waiting at the Router. -/
def withRef (s : State) (f : Frame) : State := { s with links := { s.links with waitingRef := some f } }

/-- A step of 11.2 in the given phase, in the given state and with the given cause. -/
def stepIn (s : State) (st : SeqState) (ph : Option CamPhase) (cause : Option SetdownCause) : State :=
  { s with walk :=
    { state := st
      current := some ⟨⟨.forward, 18200, 690000⟩, 690000, ph, ph.map fun _ => 695000, 0, 0, 0, 0, cause⟩
      queue := [], lockAngle := some 18200, queueFull := 0, history := [] } }

/-- A state with one request at the head of the management request queue. -/
def asked (s : State) (code : Word) (args : List Word) : State :=
  { s with mgmt := ⟨[⟨0x95, 62, code :: args, 0⟩], .free, 0⟩ }

/-- The payload of the frame at the tail of the U-port transmit queue. -/
def lastUp (t : State) : Option (List Word) := t.links.u.txQueue.getLast?.map (·.frame.words)

/-- The payload of the frame at the head of the D-port transmit queue. -/
def headDown (t : State) : Option (List Word) := t.links.d.txQueue.head?.map (·.frame.words)

/-- A state whose port holds the bytes taken since SYNC. -/
def receiving (s : State) (p : Port) (got : List Byte) : State := s.setPort p { s.port p with rx := .inFrame got }

/-- A state with a frame in a receive queue. -/
def arrived (s : State) (p : Port) (f : Frame) : State := s.setPort p { s.port p with rxQueue := [f] }

/-! ### Reception and routing -/

/-- R4: a SYNC byte starts a frame. -/
theorem test_frameStart_sync : seen (exec (.frameStart .u 0xC6) State.reset) (·.links.u.rx) = some (.inFrame []) := by
  decide

/-- R4: in a frame 0xC6 is ordinary data. -/
theorem test_frameStart_data :
    seen (exec (.frameStart .u 0xC6) (receiving State.reset .u [0x31])) (·.links.u.rx)
      = some (.inFrame [0x31, 0xC6]) := by decide

/-- R3: one zero byte takes the register from 0xFFFF to 0xFD02 (worked by hand from the five steps). -/
theorem test_check_word_byte : crcByte 0xFFFF 0 = 0xFD02 := by decide

/-- R5: a LENGTH of 61 ends the frame. -/
theorem test_badLength : seen (exec (.badLength .d [3, 61]) (receiving State.reset .d [0x52]))
    (fun t => (t.links.d.rx, t.links.d.counters.badLength, t.links.d.consecBad)) = some (.hunting, 1, 1) := by decide

/-- R7: a frame without payload and with a wrong check word is BAD_CHECK. -/
theorem test_frameComplete_bad_check :
    seen (exec (.frameComplete .u [0, 0, 0]) (receiving State.reset .u [0x95, 62]))
      (fun t => (t.links.u.counters.badCheck, t.links.u.rxQueue)) = some (1, []) := by decide +kernel

/-- R7, R9: the same frame with the check word of R3 is GOOD and queued. -/
theorem test_frameComplete_good :
    seen (exec (.frameComplete .u ([0] ++ [hiByte (checkWord [0x95, 62, 0]), loByte (checkWord [0x95, 62, 0])]))
      (receiving State.reset .u [0x95, 62]))
      (fun t => (t.links.u.counters.good, t.links.u.rxQueue.map (·.kind))) = some (1, [0x95]) := by decide +kernel

/-- R6: a silence of exactly 25 us ends nothing. -/
theorem test_truncated_at_limit :
    seen (exec (.truncated .u [1] 25000) (receiving State.reset .u [])) (·.links.u.counters.truncated) = some 0 := by
  decide

/-- R6: one beyond 25 us ends the frame. -/
theorem test_truncated_beyond :
    seen (exec (.truncated .u [1] 25001) (receiving State.reset .u []))
      (fun t => (t.links.u.counters.truncated, t.links.u.rx)) = some (1, .hunting) := by decide

/-- R10, R19: a valid REF restarts the watchdog and waits for the Governor. -/
theorem test_routeUFrame_ref :
    seen (exec .routeUFrame (arrived dig .u (refFrame 0))) (fun t => (t.links.waitingRef.isSome, t.links.watchdog))
      = some (true, .running 700000) := by decide

/-- R10: a frame of another KIND is misdirected. -/
theorem test_routeUFrame_other :
    seen (exec .routeUFrame (arrived dig .u ⟨0x52, 0, [], 0⟩)) (·.links.u.counters.misdirected) = some 1 := by decide

/-- R30: a good SWING sample. -/
theorem test_routeDFrame_sample :
    seen (exec (.routeDFrame true []) (arrived dig .d ⟨0x52, 21, [11500, 700, 2], 0⟩))
      (fun t => (t.image.swing.position, t.image.swing.speed, t.image.swing.brakeSet, t.links.u.txQueue.length))
      = some (11500, 700, true, 1) := by decide

/-- R28, R29: a position of 36000 makes the sample bad. -/
theorem test_routeDFrame_bad_sample :
    seen (exec (.routeDFrame false []) (arrived dig .d ⟨0x52, 21, [36000, 700, 2], 0⟩))
      (fun t => (t.image.swing.position, t.image.swing.badSamples)) = some (9000, 1) := by decide

/-- R32: silent for the 50 ms of CONFIG, DRAG is STALE and its timer restarts. -/
theorem test_feedbackTimerExpiry :
    seen (exec (.feedbackTimerExpiry .drag) { dig with image := { dig.image with timeBase := 700050 } })
      (fun t => (t.image.drag.state, t.image.drag.timer, t.image.drag.position)) = some (.stale, some 700050, 7200) := by
  decide

/-- R32: not one millisecond earlier. -/
theorem test_feedbackTimerExpiry_early :
    seen (exec (.feedbackTimerExpiry .drag) { dig with image := { dig.image with timeBase := 700049 } })
      (·.image.drag.state) = some .fresh := by decide

/-- R33, R155: with STALE_HOIST one short of its qualification count of 3, the sample first and then the expiry at the same
moment leave HOIST FRESH and the count at 1. -/
theorem test_feedbackTimerExpiry_overtaken :
    let s := ({ dig with image := { dig.image with timeBase := 700050 } } : State)
    let s := s.setStatus 4 { s.status 4 with condition := true, count := 2 }
    (seen (exec (.routeDFrame false []) (arrived s .d ⟨0x52, 11, [4350, 0, 1800, 0], 0⟩)) fun t =>
      seen (exec (.feedbackTimerExpiry .hoist) t) fun u =>
        (u.image.hoist.state, u.image.hoist.timer, (u.status 4).count, (u.entry? 4).isSome))
      = some (some (.fresh, some 700050, 1, false)) := by decide +kernel

/-! ### Transmission, watchdog and cycle timer -/

/-- A state with two frames waiting on the D-port. -/
def waiting2 : State :=
  State.reset.setPort .d { State.reset.links.d with
    txQueue := [⟨⟨0x95, 3, [1], 0⟩, .forwarded⟩, ⟨⟨0x95, 4, [2], 0⟩, .forwarded⟩] }

/-- The first bits a pin carries. -/
def firstBits (n : Nat) (x : PinLevel) : List Bool :=
  match x with
  | .data levels => levels.take n
  | .low => []
  | .high => []
  | .released => []

/-- R1, R13: the head frame goes on the line, SYNC first: a start bit, 0xC6 least significant bit first, a stop bit. -/
theorem test_transmitStart :
    seen (exec (.transmitStart .d) waiting2) (fun t => (t.links.d.tx.map (·.item.frame.station), t.links.d.txQueue.length,
      firstBits 10 t.pins.dtx))
      = some (some 3, 1, [false, false, true, true, false, false, false, true, true, true]) := by decide

/-- R1: a character spoiled in its stop bit gives its byte all the same. -/
theorem test_stop_bit_untested :
    byteOfCharacter [false, false, true, true, false, false, false, true, true, false] = 0xC6 := by decide

/-- R13: with nothing more to send the transmitter goes idle. -/
theorem test_transmitComplete :
    seen (exec (.transmitComplete .d)
      (waiting2.setPort .d { waiting2.links.d with tx := some ⟨⟨⟨0x95, 3, [], 0⟩, .forwarded⟩, false⟩, txQueue := [] }))
      (fun t => (t.links.d.tx, t.pins.dtx)) = some (none, .high) := by decide

/-- 11.3: at the expiry the raise of LINK_UP_LOST moves RUN to HALT, STOPN goes low and ALM is asserted. -/
theorem test_watchdogExpiry :
    seen (exec .watchdogExpiry { dig with image := { dig.image with timeBase := 700060 } })
      (fun t => (t.mode, t.alarm.list.map (·.id), t.pins.stopn, t.pins.alm, t.gov.cycleTimer))
      = some (.halt, [0], .low, .high, some 700060) := by decide

/-- R63, R64, 11.3: 20 ms on, a generated operation reads HALT. -/
theorem test_cycleTimerExpiry :
    seen (exec (.cycleTimerExpiry [])
      { dig with
        alarm := { dig.alarm with mode := .halt }
        gov := { dig.gov with cycleTimer := some 699980 } })
      (fun t => t.gov.op.map fun op => (op.generated, op.mode, op.hoistCommand, op.profileRequest))
      = some (some (true, .halt, 0, 0xFFFF)) := by decide

/-! ### The reference operation -/

/-- 11.2, first row: the session starts with lock angle 18200, the step starts in rest, the reference is +100. -/
theorem test_referenceOperation_step :
    seen (exec (.referenceOperation []) (withRef grounded (refFrame 1)))
      (fun t => (t.walk.state, t.walk.lockAngle, t.walk.phase, t.gov.op.map (·.walkRef)))
      = some (.step, some 18200, some .rest, some 100) := by decide

/-- R67: a REF that repeats the request is not new and queues nothing. -/
theorem test_referenceOperation_not_new :
    seen (exec (.referenceOperation [])
      (withRef { grounded with gov := { grounded.gov with edge := .stepFwd } } (refFrame 1)))
      (fun t => (t.walk.state, t.walk.queue)) = some (.idle, []) := by decide

/-- 5.9: hoist +450, drag +375, zone DIG, hoist limited, drag not. -/
theorem test_ropeStage_inside_grid :
    seen (exec (.ropeStage []) (during dig (opAt .rope 900 500 0 192)))
      (fun t => (t.gov.zone, t.gov.op.map fun op => (op.hoistRef, op.dragRef, op.hoistLimited, op.dragLimited)))
      = some (.dig, some (450, 375, true, false)) := by decide

/-- 5.10, operation 1: beyond two edges both commands are clamped to 0; ROPE_RANGE and TWO_BLOCK are present. -/
theorem test_ropeStage_beyond_edges :
    seen (exec (.ropeStage [])
      (during { dig with image := { dig.image with hoist := heard 11 1700 0 900, drag := heard 12 13900 0 1400 } }
        (opAt .rope 300 (-200) 0 256)))
      (fun t => (t.gov.zone, t.gov.op.map fun op => (op.hoistRef, op.dragRef), (t.status idTwoBlock).condition,
        (t.status idRopeRange).condition, (t.status idTightline).condition))
      = some (.boomtip, some (0, 0), true, true, false) := by decide

/-- 6.9: the swing reference is +623, limited, with SWING_GUARD present (hoist tension 1500 kN). -/
theorem test_swingStage_guarded :
    seen (exec (.swingStage [])
      (during { dig with image := { dig.image with hoist := heard 11 4350 0 1500 } } (opAt .swing 0 0 700 256)))
      (fun t => (t.gov.op.map fun op => (op.swingRef, op.swingLimited, op.swingBrake),
        (t.status idSwingGuard).condition, (t.status idSectorViolation).condition))
      = some (some (623, true, false), true, false) := by decide

/-- R104: the ranks of GROUND, DIG, CARRY, CLEAR and BOOMTIP. -/
theorem test_zone_ranks : [Zone.ground, .dig, .carry, .clear, .boomtip].map Zone.rank = [0, 1, 2, 3, 3] := by decide

/-- R104, R105: from BOOMTIP a GATED sector that requires BOOMTIP blocks, one that requires CLEAR does not. -/
theorem test_boomtip_rank :
    [4, 3].map (fun required => (⟨0, 1, .gated, required, 0⟩ : Sector).blocks .boomtip) = [true, false] := by decide

/-- 6.10: the sector through 0: the limit is 196 in the − direction. -/
theorem test_swingStage_wrap :
    seen (exec (.swingStage [])
      (during
        { dig with
          store := { dig.store with
            profiles := Vector.replicate 4 ⟨.valid, Memory.write profileWords 1299 35000⟩ }
          image := { dig.image with hoist := heard 11 4350 0 800, swing := heard 21 3500 (-900) 0 }
          gov := { dig.gov with baseSwing := -800 } }
        (opAt .swing 0 0 (-800) 256)))
      (fun t => t.gov.op.map (·.swingRef)) = some (some (-196)) := by decide

/-- R14, R72, R74: the outgoing REF goes to the head of the D-port queue and becomes the baselines. -/
theorem test_assembly :
    seen (exec .assembly (during waiting2 { opAt .assembly 0 0 0 192 with hoistRef := 450, dragRef := 375 }))
      (fun t => (headDown t, t.gov.baseHoist, t.gov.op, t.links.d.txQueue.length))
      = some (some [450, 375, 0, 0, 0, 0, 192], 450, none, 3) := by decide

/-! ### The Table Store -/

/-- R57, R58: at CONFIG's last word the register is not the stored check word: FAILED, TABLE_CORRUPT, HALT. -/
theorem test_scanAdvance_mismatch :
    seen (exec .scanAdvance { dig with store := { dig.store with scan := some ⟨.config, 31, 5⟩, scanDue := true } })
      (fun t => (t.store.config.state, t.alarm.list.map (·.id), t.mode, t.image.hoist.state))
      = some (.failed, [1], .halt, .unmapped) := by decide +kernel

/-- R57: from ALARM's last word, whose check is right, the advance runs on into WALK for its other 63 words. -/
theorem test_scanAdvance_runs_on :
    seen (exec .scanAdvance { dig with store := { dig.store with scan := some ⟨.alarm, 127, 0⟩, scanDue := true } })
      (fun t => (t.store.scan.map fun r => (r.page, r.next), t.store.alarm.state)) = some (some (.walk, 63), .valid) := by
  decide +kernel

/-- R47, R49: a page that fails its check word test goes to WRITTEN; the reply is CHECK_FAILED. -/
theorem test_validationComplete_check :
    seen (exec .validationComplete
      { State.reset with
        store := { State.reset.store with config := ⟨.validating, []⟩ }
        mgmt := ⟨[], .validating ⟨.config, 32, 5⟩, 0⟩ })
      (fun t => (t.store.config.state, lastUp t)) = some (.written, some [5, 7]) := by decide +kernel

/-- R43, R44: accepted in LOADING; the word is stored and the page is WRITTEN. -/
theorem test_writePage :
    seen (exec .writePage (asked State.reset 4 [0, 31, 7]))
      (fun t => (t.store.config.state, Memory.read t.store.config.words 31, lastUp t))
      = some (.written, 7, some [4, 0]) := by decide

/-- R43: CONFIG has 32 words, so offset 32 is BAD_ARGUMENT. -/
theorem test_writePage_beyond :
    seen (exec .writePage (asked State.reset 4 [0, 32, 7])) (fun t => (t.store.config.state, lastUp t))
      = some (.empty, some [4, 2]) := by decide

/-- R45: the page goes to VALIDATING and no reply is placed yet. -/
theorem test_validate :
    seen (exec .validate (asked State.reset 5 [7])) (fun t => ((t.page (.profile 3)).state, lastUp t))
      = some (.validating, none) := by decide

/-- R186: two words of the WALK page. -/
theorem test_readPage :
    seen (exec .readPage (asked dig 3 [2, 15, 2])) lastUp = some (some [3, 0, 5000, 150]) := by decide

/-! ### Requests -/

/-- R184, R188: the first words of STATUS after a power-on reset at station 62. -/
theorem test_status :
    seen (exec .status (asked State.reset 1 [])) (fun t => (lastUp t).map (·.take 7))
      = some (some [1, 0, 0, 0, 62, 0, 0xFFFF]) := by decide

/-- R185, R188: a record is 8 words, so DRAG's position stands at word 12 of the payload. -/
theorem test_readImage :
    seen (exec .readImage (asked dig 2 [])) (fun t => (lastUp t).map fun ws => (ws[2]?, ws[12]?, ws.length))
      = some (some (some 0x0B02, some 7200, 60)) := by decide

/-- R166: with every page VALID and no STOP entry GO enters RUN. -/
theorem test_go :
    seen (exec .go (asked { dig with alarm := State.reset.alarm } 6 [])) (fun t => (t.mode, t.pins.stopn, lastUp t))
      = some (.run, .high, some [6, 0]) := by decide +kernel

/-- R166: after a reset no page is VALID. -/
theorem test_go_not_valid :
    seen (exec .go (asked State.reset 6 [])) (fun t => (t.mode, lastUp t)) = some (.loading, some [6, 5]) := by decide

/-- R136, R167: HALT with a step in P3 sets it down. -/
theorem test_halt_step :
    seen (exec .halt (asked (stepIn dig .step (some .p3) none) 7 []))
      (fun t => (t.mode, t.walk.state, t.walk.current.bind (·.cause))) = some (.halt, .setdown, some .halted) := by decide

/-- R169, 11.3: RESUME from HALT with an empty list. -/
theorem test_resume :
    seen (exec .resume (asked { dig with alarm := { dig.alarm with mode := .halt } } 8 []))
      (fun t => (t.mode, lastUp t)) = some (.run, some [8, 0]) := by decide +kernel

/-- R177: RESTART is refused in RUN. -/
theorem test_restart_run :
    seen (exec .restart (asked dig 9 [])) (fun t => (t.mgmt.unit, lastUp t)) = some (.free, some [9, 3]) := by decide

/-- R177, R178: accepted in LOADING it stays in service. -/
theorem test_restart :
    seen (exec .restart (asked State.reset 9 [])) (fun t => (t.mgmt.unit, lastUp t))
      = some (.restartPlaced, some [9, 0]) := by decide

/-- An entry of STALE_DRAG as 8.12 raises it. -/
def staleDrag : Entry := ⟨5, true, .derate, 5, 128, 699000, false⟩

/-- The part with that entry alone, sounding. -/
def alarmed : State := { dig with alarm := { dig.alarm with list := [staleDrag], horn := some 5, hornOrigin := 699000 } }

/-- R154: acknowledged with its condition absent, a LATCHED entry is removed. -/
theorem test_ackAlarm :
    seen (exec .ackAlarm (asked alarmed 10 [255])) (fun t => (t.alarm.list, t.alarm.horn, t.derate, lastUp t))
      = some ([], none, 256, some [10, 0, 1, 1]) := by decide

/-- R162, R188: severity DERATE 2, latched bit 2, horn 5 in bits 4 to 7. -/
theorem test_readAlarms :
    seen (exec .readAlarms (asked alarmed 11 [0])) lastUp
      = some (some [11, 0, 1, 5, 0x56, 128, 10, 43640]) := by decide

/-- R163, R188: after a reset ID 23 is armed and nothing else. -/
theorem test_readAlarmStatus :
    seen (exec .readAlarmStatus (asked State.reset 12 [23, 1])) lastUp = some (some [12, 0, 2, 0, 0]) := by decide

/-- R159: FORCE is refused for ID 1 in every mode. -/
theorem test_force_fixed :
    seen (exec .force (asked State.reset 13 [1, 1])) lastUp = some (some [13, 2]) := by decide

/-- R160: on in LOADING: forced, evaluated present once. -/
theorem test_force_on :
    seen (exec .force (asked State.reset 13 [12, 1]))
      (fun t => ((t.status 12).forced, (t.status 12).condition, (t.status 12).count)) = some (true, true, 1) := by decide

/-- R141, R188: with no step the SEQUENCER reply has 21 data words, words 9 and 20 none, no queued record. -/
theorem test_readWalk :
    seen (exec .readWalk (asked State.reset 14 [0])) (fun t => (lastUp t).map fun ws => (ws.length, ws[4]?, ws[11]?, ws[22]?))
      = some (some (24, some 0, some 0xFFFF, some 0xFFFF)) := by decide

/-- R187: CLEAR_COUNTERS. -/
theorem test_clearCounters :
    seen (exec .clearCounters
      (asked (State.reset.setPort .u { State.reset.links.u with counters := ⟨9, 9, 9, 9, 9, 9, 9⟩, consecBad := 4 }) 15 []))
      (fun t => (t.links.u.counters.good, t.links.u.consecBad, lastUp t)) = some (0, 4, some [15, 0]) := by decide

/-- R181: an unknown code is echoed with UNKNOWN_REQUEST. -/
theorem test_unknownRequest :
    seen (exec .unknownRequest (asked State.reset 16 [])) lastUp = some (some [16, 1]) := by decide

/-! ### Resets, clock, supply and the time base -/

/-- R176: straps 0 give station 1. -/
theorem test_resetEnd_zero :
    seen (exec (.resetEnd 0) { State.reset with phase := .resetting .pin }) (fun t => (t.station, t.alarm.resetCause))
      = some (1, .pin) := by decide

/-- R176: straps 63 give station 62. -/
theorem test_resetEnd_top :
    seen (exec (.resetEnd 63) { State.reset with phase := .resetting .powerOn }) (·.station) = some 62 := by decide

/-- R192: 1999 ns of RSTN low make no reset. -/
theorem test_pinReset_short : seen (exec (.pinReset 1999) dig) (·.phase) = some .working := by decide

/-- R191, R192: 2000 ns do, and STOPN goes low. -/
theorem test_pinReset : seen (exec (.pinReset 2000) dig) (fun t => (t.phase, t.pins.stopn, t.store.config.state))
    = some (.resetting .pin, .low, .empty) := by decide

/-- R175: a power-on reset. -/
theorem test_powerOnReset : seen (exec .powerOnReset { dig with phase := .off }) (fun t => (t.phase, t.mode))
    = some (.resetting .powerOn, .loading) := by decide

/-- A commanded restart in effect, with a frame heard meanwhile. -/
def restarting : State :=
  { dig with
    phase := .restarting true, alarm := AlarmUnit.fresh .powerOn, image := dig.image.unmapAll
    links := { State.reset.links with held := [(.d, .good ⟨0x52, 21, [], 0⟩)] }
    mgmt := ⟨[], .restartPlaced, 0⟩ }

/-- R21, R35, R178: the restart ends: COMMANDED, the axes mapped, the held frame queued. -/
theorem test_restartEnd :
    seen (exec .restartEnd restarting)
      (fun t => (t.phase, t.alarm.resetCause, t.image.walk.station, t.links.d.rxQueue.length, t.mgmt.unit))
      = some (.working, .commanded, 14, 1, .free) := by decide

/-- R8, R21: a frame truncated while the restart was in effect is counted as it ends. -/
theorem test_restartEnd_truncated :
    seen (exec .restartEnd { restarting with links := { restarting.links with held := [(.u, .truncated)] } })
      (fun t => (t.links.u.counters.truncated, t.links.u.consecBad, (t.status (idFrameErrors .u)).condition, t.links.held))
      = some (1, 1, false, []) := by decide

/-- R178: the last byte of the RESTART reply puts the commanded restart in effect; the pages are kept. -/
theorem test_transmitComplete_restart :
    seen (exec (.transmitComplete .u)
      (dig.setPort .u { dig.links.u with tx := some ⟨⟨⟨0xB6, 62, [9, 0], 0⟩, .restartReply⟩, false⟩ }))
      (fun t => (t.phase, t.mode, t.store.config.state, t.image.hoist.state))
      = some (.restarting false, .loading, .valid, .unmapped) := by decide

/-- R22: the time base wraps. -/
theorem test_timeBaseAdvance_wrap :
    seen (exec .timeBaseAdvance { State.reset with image := { State.reset.image with timeBase := 0xFFFFFFFF } }) (·.now)
      = some 0 := by decide

/-- R174: pattern 1 is off from 500 ms after its origin on. -/
theorem test_timeBaseAdvance_horn :
    seen (exec .timeBaseAdvance
      { dig with
        image := { dig.image with timeBase := 699499 }
        alarm := { dig.alarm with horn := some 1, hornOrigin := 699000 } }) (·.pins.horn) = some .low := by decide

/-- R192: while CLK is stopped the time base stands still. -/
theorem test_clockStop :
    seen (exec .clockStop dig) (fun t => seen (exec .timeBaseAdvance t) (·.now)) = some (some 700000) := by decide

/-- R192: and runs on from there. -/
theorem test_clockRestart :
    seen (exec .clockRestart { dig with clk := false }) (fun t => seen (exec .timeBaseAdvance t) (·.now))
      = some (some 700001) := by decide

/-- R191: without supply STOPN is held low. -/
theorem test_supplyLoss : seen (exec .supplyLoss dig) (fun t => (t.phase, t.pins.stopn)) = some (.off, .low) := by decide

/-! ### A state that meets the hypotheses of every obligation, clause by clause -/

/-- A queue with a command in front, and an empty one. -/
theorem witness_StepRunsFrontCommand :
    ({ dig with pending := [.go, .halt] } : State).pending = .go :: [.halt] ∧ dig.pending = [] := ⟨rfl, rfl⟩

/-- A step that enters RUN, one that enters HALT, one that enters LOADING. -/
theorem witness_ModeMovesOnlyAsListed :
    (∃ t, exec .resume (asked { dig with alarm := { dig.alarm with mode := .halt } } 8 []) = .next t
      ∧ t.mode = .run ∧ t.mode ≠ .halt)
    ∧ (∃ t, exec .halt (asked dig 7 []) = .next t ∧ t.mode = .halt ∧ t.mode ≠ dig.mode)
    ∧ ∃ t, exec .powerOnReset dig = .next t ∧ t.mode = .loading ∧ t.mode ≠ dig.mode :=
  ⟨⟨_, rfl, by decide +kernel, by decide +kernel⟩, ⟨_, rfl, by decide, by decide⟩, ⟨_, rfl, by decide, by decide⟩⟩

/-- A step that changes a page's words, one that makes one FAILED, one that makes one VALID. -/
theorem witness_PagesChangeOnlyAsListed :
    (∃ t, exec .writePage (asked State.reset 4 [0, 31, 7]) = .next t
      ∧ (t.page .config).words ≠ (State.reset.page .config).words)
    ∧ (∃ t, exec .scanAdvance
        { dig with store := { dig.store with scan := some ⟨.config, 31, 5⟩, scanDue := true } } = .next t
      ∧ (t.page .config).state = .failed ∧ (dig.page .config).state ≠ .failed)
    ∧ ∃ t, exec .validationComplete
        { dig with
          store := { dig.store with walk := ⟨.validating, walkWords⟩ }
          mgmt := ⟨[], .validating ⟨.walk, 64, 0⟩, 0⟩ } = .next t ∧ (t.page .walk).state = .valid :=
  ⟨⟨_, rfl, by decide⟩, ⟨_, rfl, by decide +kernel, by decide⟩, ⟨_, rfl, by decide +kernel⟩⟩

/-- At work with an entry sounding, in a reset, and with a frame being sent. -/
theorem witness_LinesFollowKept :
    LinesFollow { alarmed with pending := [.halt], pins := ⟨.high, .high, .high, .high, .high⟩ }
    ∧ LinesFollow { State.reset with phase := .resetting .pin, pending := [.resetEnd 5] }
    ∧ (let sent : Sending := ⟨⟨⟨0x95, 3, [], 0⟩, .forwarded⟩, false⟩
      LinesFollow { State.reset with
        links := { State.reset.links with d := { State.reset.links.d with tx := some sent } }
        pins := { State.reset.pins with dtx := txLevel (some sent) } })
    ∧ (∃ t, step { alarmed with pending := [.halt], pins := ⟨.high, .high, .high, .high, .high⟩ } = .next t)
    ∧ ∃ t, step { State.reset with phase := .resetting .pin, pending := [.resetEnd 5] } = .next t :=
  ⟨⟨by decide +kernel, by decide +kernel, by decide +kernel, fun _ => rfl, fun _ => rfl, by decide +kernel, by decide +kernel⟩
    , ⟨by decide, by decide, by decide, fun _ => rfl, fun _ => rfl, by decide, by decide⟩
    , ⟨by decide, by decide, by decide, fun _ => rfl, fun _ => rfl, by decide, fun h => absurd rfl h⟩
    , ⟨_, rfl⟩, ⟨_, rfl⟩⟩

/-- A list with an entry, in RUN; a STOP entry in HALT. -/
theorem witness_AlarmListSoundKept :
    AlarmListSound { alarmed with pending := [.watchdogExpiry] }
    ∧ AlarmListSound { alarmed with
        pending := [.watchdogExpiry]
        alarm := { alarmed.alarm with mode := .halt, list := [staleDrag, ⟨0, true, .stop, 0, 0, 5, false⟩] } }
    ∧ ∃ t, step { alarmed with pending := [.watchdogExpiry] } = .next t :=
  ⟨⟨by decide, by decide, by decide⟩, ⟨by decide, by decide, by decide⟩, ⟨_, rfl⟩⟩

/-- Each sequencer state, with a step to take. -/
theorem witness_WalkSoundKept :
    WalkSound { dig with pending := [.halt] }
    ∧ WalkSound { stepIn dig .prep none none with pending := [.halt] }
    ∧ WalkSound { stepIn dig .step (some .rest) none with pending := [.halt] }
    ∧ WalkSound { stepIn dig .setdown (some .p4) (some .halted) with pending := [.halt] }
    ∧ ∃ t, step { dig with pending := [.halt] } = .next t :=
  ⟨⟨rfl, by decide, by decide, by decide, by decide, by decide⟩
    , ⟨⟨_, rfl, rfl, rfl, rfl⟩, by decide, by decide, by decide, by decide, by decide⟩
    , ⟨⟨_, _, rfl, rfl, by decide, rfl⟩, by decide, by decide, by decide, by decide, by decide⟩
    , ⟨⟨_, rfl, .inr (.inr rfl), by decide, by decide⟩, by decide, by decide, by decide, by decide, by decide⟩
    , ⟨_, rfl⟩⟩

/-- Full queues, and a report that waits beside a full U-port transmit queue. -/
def fullUp : State :=
  { dig with
    links := { dig.links with
      u := { dig.links.u with
        rxQueue := List.replicate 4 (refFrame 0)
        txQueue := List.replicate 8 ⟨⟨0x52, 21, [], 0⟩, .forwarded⟩ }
      d := { dig.links.d with
        rxQueue := List.replicate 8 ⟨0x52, 21, [], 0⟩
        txQueue := ⟨refFrame 0, .reference⟩ :: List.replicate 3 ⟨⟨0x95, 3, [], 0⟩, .forwarded⟩ } }
    mgmt := ⟨List.replicate 4 ⟨0x95, 62, [1], 0⟩, .replying [1, 0] false, 0⟩ }

theorem witness_QueuesSoundKept :
    QueuesBounded { fullUp with pending := [.transmitStart .u] }
    ∧ NothingOwnWaits { fullUp with pending := [.transmitStart .u] }
    ∧ NothingOwnWaits dig
    ∧ ∃ t, step { fullUp with pending := [.transmitStart .u] } = .next t :=
  ⟨⟨by decide, by decide, by decide, by decide, by decide, by decide⟩
    , fun _ h => absurd h (by decide), fun _ _ => ⟨by decide, fun _ _ h => by cases h⟩, ⟨_, rfl⟩⟩

/-- An operation before assembly, in RUN, and an outgoing REF of a walk session that waits. -/
theorem witness_ReferencesSafeKept :
    ReferencesSafe
      { during dig { opAt .assembly 900 500 0 192 with hoistRef := 450, dragRef := 375 } with
        pending := [.assembly]
        links := { dig.links with d := { dig.links.d with
          txQueue := [⟨⟨0x31, 0, [wordOf (-100), 0, 0, 400, 0x81, 0, 256], 0⟩, .reference⟩] } } }
    ∧ ∃ t, step { during dig (opAt .assembly 900 500 0 192) with pending := [.assembly] } = .next t := by
  refine ⟨⟨by decide, by decide, by decide, by decide, ?_, ?_, by intro x h; cases h⟩, ⟨_, rfl⟩⟩
  · intro op h
    cases h
    exact ⟨by decide, by decide, by decide, by decide, ⟨.inr rfl, by decide⟩, ⟨.inr rfl, by decide⟩
      , ⟨.inl rfl, by decide⟩, by decide, by decide, by decide, by decide⟩
  · intro x h _
    cases List.mem_singleton.mp h
    exact ⟨_, _, _, _, _, _, _, rfl, by decide, by decide, by decide, by decide, by decide, by decide, by decide
      , by decide⟩

/-- Every page VALID in RUN, the scan at CONFIG. -/
theorem witness_StoreSoundKept :
    StoreSound { dig with pending := [.scanAdvance] } ∧ ∃ t, step { dig with pending := [.scanAdvance] } = .next t := by
  refine ⟨⟨?_, ?_, (by intro n h; cases h), by decide⟩, ⟨_, rfl⟩⟩
  · intro id
    match id with
    | .config => decide +kernel
    | .alarm => decide +kernel
    | .walk => decide +kernel
    | .profile 0 => decide +kernel
    | .profile 1 => decide +kernel
    | .profile 2 => decide +kernel
    | .profile 3 => decide +kernel
  · intro id
    match id with
    | .config => decide
    | .alarm => decide
    | .walk => decide
    | .profile 0 => decide
    | .profile 1 => decide
    | .profile 2 => decide
    | .profile 3 => decide

/-- Every axis FRESH with CONFIG VALID. -/
theorem witness_ImageSoundKept :
    ImageSound { dig with pending := [.feedbackTimerExpiry .swing] }
    ∧ ∃ t, step { dig with pending := [.feedbackTimerExpiry .swing] } = .next t := by
  refine ⟨⟨?_, ?_, fun h => absurd rfl h⟩, ⟨_, rfl⟩⟩
  · intro a
    match a with
    | .hoist => exact ⟨⟨by decide, by decide, by decide⟩, by decide, by decide, by decide, by decide, by decide,
        fun m h => by cases h⟩
    | .drag => exact ⟨⟨by decide, by decide, by decide⟩, by decide, by decide, by decide, by decide, by decide,
        fun m h => by cases h⟩
    | .swing => exact ⟨⟨by decide, by decide, by decide⟩, by decide, by decide, by decide, by decide, by decide,
        fun m h => by cases h⟩
    | .walk => exact ⟨⟨by decide, by decide, by decide⟩, by decide, by decide, by decide, by decide, by decide,
        fun m h => by cases h⟩
  · intro _ a
    match a with
    | .hoist => decide
    | .drag => decide
    | .swing => decide
    | .walk => decide

/-- A validation in progress with the watchdog EXPIRED, and a commanded restart in effect. -/
theorem witness_ServiceAndLinkLossSoundKept :
    ManagementSound
      { State.reset with
        pending := [.timeBaseAdvance]
        store := { State.reset.store with alarm := ⟨.validating, []⟩ }
        mgmt := ⟨[], .validating ⟨.alarm, 64, 7⟩, 0⟩ }
    ∧ ManagementSound { State.reset with phase := .restarting false, mgmt := ⟨[], .restartPlaced, 0⟩ }
    ∧ LinkLossSound
      { State.reset with
        pending := [.timeBaseAdvance]
        links := { State.reset.links with watchdog := .expired }
        gov := { State.reset.gov with cycleTimer := some 0 } }
    ∧ ∃ t, step { State.reset with pending := [.timeBaseAdvance] } = .next t := by
  refine ⟨⟨?_, ?_, (by rintro ⟨x, h, _⟩; cases h), ?_, ?_, (fun _ _ => rfl), ?_⟩,
    ⟨?_, ?_, (by rintro ⟨x, h, _⟩; cases h), ?_, ?_, (fun _ _ => rfl), ?_⟩, ⟨?_, ?_⟩, ⟨_, rfl⟩⟩
  · intro v h; cases h; exact ⟨rfl, by decide⟩
  · intro id h
    match id, h with
    | .alarm, _ => exact ⟨_, rfl, rfl⟩
    | .config, h => exact absurd h (by decide)
    | .walk, h => exact absurd h (by decide)
    | .profile 0, h => exact absurd h (by decide)
    | .profile 1, h => exact absurd h (by decide)
    | .profile 2, h => exact absurd h (by decide)
    | .profile 3, h => exact absurd h (by decide)
  · rintro ⟨x, h, _⟩; cases h
  · intro k h; cases h
  · exact ⟨(by intro x h; cases h), by intro x h; cases h⟩
  · intro v h; cases h
  · intro id h
    match id, h with
    | .alarm, h => exact absurd h (by decide)
    | .config, h => exact absurd h (by decide)
    | .walk, h => exact absurd h (by decide)
    | .profile 0, h => exact absurd h (by decide)
    | .profile 1, h => exact absurd h (by decide)
    | .profile 2, h => exact absurd h (by decide)
    | .profile 3, h => exact absurd h (by decide)
  · rintro ⟨x, h, _⟩; cases h
  · intro k _; exact ⟨rfl, rfl, rfl⟩
  · exact ⟨(by intro x h; cases h), by intro x h; cases h⟩
  · decide
  · intro k h; cases h

/-- No payload and the longest payload, with a right check word. -/
theorem witness_FramesReadBack :
    (composeFrame 0x95 62 []).words.length ≤ 60 ∧ (composeFrame 0x95 62 []).checkOk = true
    ∧ (composeFrame 0x95 62 []).bytes[0]? = some 0xC6
    ∧ (composeFrame 0x52 3 (List.replicate 60 7)).words.length ≤ 60
    ∧ [0x95] <+: (composeFrame 0x95 62 []).bytes.drop 1 ∧ [0x95] ≠ (composeFrame 0x95 62 []).bytes.drop 1 :=
  ⟨by decide, composeFrame_checkOk _ _ _, rfl, by decide, ⟨_, rfl⟩, by intro h; cases h⟩

/-- HUNTING with and without a SYNC byte; IN_FRAME before LENGTH, at LENGTH 0 and at LENGTH 60 one byte early. -/
theorem witness_ReceiverTakesBytes :
    State.reset.clk = true ∧ (State.reset.phase = .working ∨ ∃ k, State.reset.phase = .restarting k)
    ∧ (State.reset.port .u).rx = .hunting ∧ (0xC5 : Byte) ≠ 0xC6
    ∧ ((receiving State.reset .u [1]).port .u).rx = .inFrame [1] ∧ (([1] : List Byte) ++ [2])[2]? = none
    ∧ (∀ l, (([1, 2] : List Byte) ++ [0])[2]? = some l →
        l.toNat ≤ 60 ∧ (([1, 2] : List Byte) ++ [0]).length < 5 + 2 * l.toNat)
    ∧ ∀ l, (([1, 2, 60] ++ List.replicate 120 0 : List Byte) ++ [9])[2]? = some l →
        l.toNat ≤ 60 ∧ (([1, 2, 60] ++ List.replicate 120 0 : List Byte) ++ [9]).length < 5 + 2 * l.toNat :=
  ⟨rfl, .inl rfl, rfl, by decide, rfl, rfl, (by intro l h; cases h; decide), by
    intro l h
    cases h
    decide +kernel⟩

/-- A GOOD frame at a queue with room and at a full one; a REF of 6 words; each bad outcome at its boundary. -/
theorem witness_FrameOutcomes :
    let f := composeFrame 0x95 62 []
    let r := composeFrame 0x31 0 [0, 0, 0, 0, 0, 0]
    let m := composeFrame 0x31 0 []
    let c : Frame := ⟨0x95, 62, [], f.check + 1⟩
    Completes (receiving dig .u [0x95, 62]) .u [0, hiByte f.check, loByte f.check] f ∧ f.checkOk = true
    ∧ Completes (receiving fullUp .d [0x95, 62]) .d [0, hiByte f.check, loByte f.check] f
    ∧ Completes (receiving dig .u []) .u (r.bytes.drop 1) r ∧ r.checkOk = true
    ∧ ¬(Port.u = .u ∧ r.kind = 0x31 ∧ r.words.length ≠ 6)
    ∧ Completes (receiving dig .u []) .u (m.bytes.drop 1) m ∧ m.checkOk = true ∧ m.kind = 0x31 ∧ m.words.length ≠ 6
    ∧ Completes (receiving dig .u []) .u (c.bytes.drop 1) c ∧ c.checkOk = false
    ∧ (([3] : List Byte) ++ [4, 61]).length = 3 ∧ (([3] : List Byte) ++ [4, 61])[2]? = some 61
    ∧ (∀ l, (([3] : List Byte) ++ [4])[2]? = some l → l.toNat ≤ 60 ∧ (([3] : List Byte) ++ [4]).length < 5 + 2 * l.toNat)
    ∧ 25000 < 25001 ∧ 25000 ≤ 25000 := by
  refine ⟨⟨rfl, by decide, _, rfl, rfl⟩, composeFrame_checkOk _ _ _, ⟨rfl, by decide, _, rfl, rfl⟩,
    ⟨rfl, by decide, _, rfl, rfl⟩, composeFrame_checkOk _ _ _, by decide, ⟨rfl, by decide, _, rfl, rfl⟩,
    composeFrame_checkOk _ _ _, rfl, by decide, ⟨rfl, by decide, _, rfl, rfl⟩, by decide +kernel, rfl, rfl, ?_,
    by decide, by decide⟩
  intro l h
  cases h

/-- Each class of frame at the head of the U-port receive queue. -/
theorem witness_RouterClassifiesUpstream :
    dig.working = true ∧ dig.links.waitingRef = none
    ∧ (arrived dig .u (refFrame 0)).links.u.rxQueue = refFrame 0 :: [] ∧ (refFrame 0).kind = 0x31
    ∧ (arrived dig .u ⟨0x95, 62, [], 0⟩).links.u.rxQueue = ⟨0x95, 62, [], 0⟩ :: [] ∧ (62 : Byte).toNat = dig.station
    ∧ (arrived fullUp .u ⟨0x95, 61, [], 0⟩).links.u.rxQueue = ⟨0x95, 61, [], 0⟩ :: [] ∧ (61 : Byte).toNat ≠ dig.station
    ∧ (arrived dig .u ⟨0x31, 1, [], 0⟩).links.u.rxQueue = ⟨0x31, 1, [], 0⟩ :: []
    ∧ ((0x31 : Byte) ≠ 0x95 ∧ ¬((0x31 : Byte) = 0x31 ∧ (1 : Byte) = 0)) :=
  ⟨rfl, rfl, rfl, rfl, rfl, rfl, rfl, by decide, rfl, by decide⟩

/-- A valid REF while RUNNING and while EXPIRED; another frame; a frame received; a frame routed downward. -/
theorem witness_ValidRefRestartsWatchdog :
    dig.working = true ∧ dig.links.waitingRef = none ∧ (arrived dig .u (refFrame 0)).links.u.rxQueue = refFrame 0 :: []
    ∧ ({ arrived dig .u (refFrame 0) with
        links := { (arrived dig .u (refFrame 0)).links with watchdog := .expired } } : State).working = true
    ∧ ((refFrame 0).kind = 0x31 ∧ (refFrame 0).station = 0)
    ∧ (∃ t, exec .routeUFrame (arrived dig .u ⟨0x95, 62, [], 0⟩) = .next t) ∧ ¬((0x95 : Byte) = 0x31 ∧ (62 : Byte) = 0)
    ∧ (∃ t, exec (.frameComplete .u [1]) dig = .next t) ∧ ∃ t, exec (.routeDFrame true []) dig = .next t :=
  ⟨rfl, rfl, rfl, rfl, ⟨rfl, rfl⟩, ⟨_, rfl⟩, by decide, ⟨_, rfl⟩, ⟨_, rfl⟩⟩

/-- Each class of frame at the head of the D-port receive queue, with room upward and without. -/
theorem witness_RouterForwardsUpward :
    dig.working = true ∧ (arrived dig .d ⟨0x52, 21, [], 0⟩).links.d.rxQueue = ⟨0x52, 21, [], 0⟩ :: []
    ∧ (arrived dig .d ⟨0x52, 21, [], 0⟩).links.u.txQueue.length < 8
    ∧ 8 ≤ (arrived fullUp .d ⟨0x52, 21, [], 0⟩).links.u.txQueue.length
    ∧ (arrived fullUp .d ⟨0xB6, 21, [], 0⟩).links.d.rxQueue = ⟨0xB6, 21, [], 0⟩ :: [] ∧ fullUp.working = true
    ∧ (arrived dig .d ⟨0x95, 21, [], 0⟩).links.d.rxQueue = ⟨0x95, 21, [], 0⟩ :: [] ∧ (0x95 : Byte) ≠ 0x52
    ∧ (0x95 : Byte) ≠ 0xB6 :=
  ⟨rfl, rfl, by decide, by decide, rfl, rfl, rfl, by decide, by decide⟩

/-- A rope sample at the upper end of every range, and one at the lower end; one that overtakes an expiry. -/
theorem witness_RopeSampleAccepted :
    let f : Frame := ⟨0x52, 11, [65000, 1000, 10000, 3], 0⟩
    let g : Frame := ⟨0x52, 12, [0, wordOf (-1000), 0, 0], 0⟩
    SampleArrives (arrived dig .d f) .hoist f [] ∧ samplePasses .hoist f.words
    ∧ SampleArrives (arrived dig .d g) .drag g [] ∧ samplePasses .drag g.words
    ∧ FeedbackDue { arrived dig .d f with image := { dig.image with timeBase := 700050 } } .hoist
    ∧ (dig.axis .hoist).overtaken ≠ some dig.now :=
  ⟨⟨rfl, rfl, rfl, by decide, by decide, rfl, by intro b h; cases b <;> first | exact absurd rfl h | decide⟩
    , ⟨_, _, _, _, rfl, by decide, by decide, by decide, by decide⟩
    , ⟨rfl, rfl, rfl, by decide, by decide, rfl, by intro b h; cases b <;> first | exact absurd rfl h | decide⟩
    , ⟨_, _, _, _, rfl, by decide, by decide, by decide, by decide⟩
    , ⟨_, rfl, by decide⟩, by decide⟩

/-- A SWING sample at the ends of its ranges, with no session and in a session with its lock angle. -/
theorem witness_SwingSampleAccepted :
    let f : Frame := ⟨0x52, 21, [35999, 3000, 2], 0⟩
    let s := arrived (stepIn dig .step (some .p3) none) .d f
    SampleArrives (arrived dig .d f) .swing f [] ∧ samplePasses .swing f.words
    ∧ SampleArrives s .swing f [] ∧ s.walk.session = true ∧ s.walk.lockAngle = some 18200 :=
  ⟨⟨rfl, rfl, rfl, by decide, by decide, rfl, by intro b h; cases b <;> first | exact absurd rfl h | decide⟩
    , ⟨_, _, _, rfl, by decide, by decide, by decide⟩
    , ⟨rfl, rfl, rfl, by decide, by decide, rfl, by intro b h; cases b <;> first | exact absurd rfl h | decide⟩
    , rfl, rfl⟩

/-- A WALK sample during a step, for each way it goes: FAULT, rest, P1 in SETDOWN, the same phase late and in time; in
IDLE and in PREP; the boundaries of 11.2 rise, with an angle at each edge. -/
theorem witness_WalkSampleMovesStep :
    let f : Frame := ⟨0x52, 14, [35999, 1], 0⟩
    let s := arrived (stepIn dig .step (some .p3) none) .d f
    let d := arrived (stepIn dig .setdown (some .p4) (some .halted)) .d ⟨0x52, 14, [2000, 0], 0⟩
    let i := arrived dig .d f
    let p := arrived (stepIn dig .prep none none) .d f
    (SampleArrives s .walk f [] ∧ samplePasses .walk f.words
      ∧ calm s [idStale .walk, idDriveFault .walk, idWalkStall, idBrakeSlip]
      ∧ stepAgrees s.walk.state s.walk.current ∧ s.walk.state = .step ∧ (1 : Word).getLsbD 0 = true
      ∧ stepAgrees d.walk.state d.walk.current ∧ d.walk.state = .setdown ∧ d.camPhase 2000 = .p1
      ∧ s.camPhase 35999 = .rest ∧ s.camPhase 17000 = .p3
      ∧ s.phaseMax .p3 = 10000 ∧ ¬10000 < since s.now 695000
      ∧ 10000 < since ({ s with image := { s.image with timeBase := 705001 } } : State).now 695000)
    ∧ (SampleArrives i .walk f [] ∧ i.walk.state = .idle ∧ SampleArrives p .walk f [] ∧ p.walk.state = .prep)
    ∧ (dig.walkField (walkBoundary 0) = 2000 ∧ dig.walkField (walkBoundary 1) = 8000
      ∧ dig.walkField (walkBoundary 2) = 17000 ∧ dig.walkField (walkBoundary 3) = 26000
      ∧ dig.walkField (walkBoundary 4) = 32000
      ∧ [1999, 2000, 7999, 8000, 16999, 25999, 31999, 32000].map dig.camPhase
          = [.rest, .p1, .p1, .p2, .p2, .p3, .p4, .rest]) := by
  have arrives : ∀ w : WalkSeq, SampleArrives (arrived { dig with walk := w } .d ⟨0x52, 14, [35999, 1], 0⟩) .walk
      ⟨0x52, 14, [35999, 1], 0⟩ [] := by
    refine fun w => ⟨rfl, rfl, rfl, rfl, (by intro h; cases h), rfl, fun b h => ?_⟩
    show (dig.axis b).station ≠ 14
    cases b <;> first | exact absurd rfl h | decide
  refine ⟨⟨arrives _, ⟨_, _, rfl, by decide⟩, ?_, ⟨_, _, rfl, rfl, by decide, rfl⟩, rfl, by decide,
    ⟨_, rfl, .inr (.inr rfl), by decide, by decide⟩, rfl, by decide +kernel, by decide +kernel, by decide +kernel,
    by decide +kernel, by decide, by decide⟩, ⟨arrives _, rfl, arrives _, rfl⟩, by decide +kernel⟩
  unfold calm; decide +kernel

/-- A sample out of range by one; a station no axis is mapped to; no map in force. -/
theorem witness_OtherSamplesChangeNoRecord :
    let f : Frame := ⟨0x52, 14, [36000, 0], 0⟩
    let g : Frame := ⟨0x52, 22, [1, 0], 0⟩
    SampleArrives (arrived dig .d f) .walk f [] ∧ ¬samplePasses .walk f.words
    ∧ (arrived dig .d g).links.d.rxQueue = g :: [] ∧ g.kind = 0x52
    ∧ (∀ a, ((arrived dig .d g).axis a).state = .unmapped ∨ ((arrived dig .d g).axis a).station ≠ g.station.toNat)
    ∧ (arrived State.reset .d g).pageValid .config = false := by
  refine ⟨⟨rfl, rfl, rfl, by decide, by decide, rfl, ?_⟩, ?_, rfl, rfl, ?_, by decide⟩
  · intro b h; cases b <;> first | exact absurd rfl h | decide
  · rintro ⟨pos, fl, h, k⟩; cases h; exact absurd k (by decide)
  · intro a; cases a <;> decide

/-- A timer due to the millisecond, without and with the loss of the walk axis during a step; one not due, and one that a
sample overtook. -/
theorem witness_FeedbackTimerExpires :
    let s : State := { dig with image := { dig.image with timeBase := 700050 } }
    let w : State := { stepIn dig .step (some .p3) none with image := { dig.image with timeBase := 700050 } }
    let o := dig.setAxis .drag { dig.image.drag with overtaken := some 700000 }
    s.working = true ∧ FeedbackDue s .drag ∧ FeedbackDue w .walk ∧ (w.axis .walk).state = .fresh ∧ w.walk.state = .step
    ∧ stepAgrees w.walk.state w.walk.current
    ∧ ¬FeedbackDue o .drag ∧ (o.axis .drag).overtaken = some o.now
    ∧ ¬FeedbackDue dig .drag ∧ (dig.axis .drag).overtaken ≠ some dig.now := by
  refine ⟨rfl, ⟨_, rfl, by decide⟩, ⟨_, rfl, by decide⟩, rfl, rfl, ⟨_, _, rfl, rfl, by decide, rfl⟩, ?_, rfl, ?_, by decide⟩
  · rintro ⟨start, h, k⟩; cases h; exact absurd k (by decide)
  · rintro ⟨start, h, k⟩; cases h; exact absurd k (by decide)

/-- An idle transmitter with a frame waiting; one sending with and without a frame waiting. -/
theorem witness_TransmitterTakesHead :
    let x : Sending := ⟨⟨⟨0x95, 3, [], 0⟩, .forwarded⟩, false⟩
    let s := waiting2.setPort .d { waiting2.links.d with tx := some x }
    let e := State.reset.setPort .d { State.reset.links.d with tx := some x }
    waiting2.working = true ∧ (waiting2.port .d).tx = none ∧ (waiting2.port .d).txQueue.length = 2
    ∧ (s.port .d).tx = some x ∧ x.item.origin ≠ .restartReply ∧ (s.port .d).txQueue.length = 2
    ∧ (e.port .d).tx = some x ∧ (e.port .d).txQueue = [] := ⟨rfl, rfl, rfl, rfl, by decide, rfl, rfl, rfl⟩

/-- One free slot with a report and a reply waiting, and none. -/
theorem witness_ArbiterFillsFreeSlots :
    fullUp.links.u.txQueue.length ≤ 8 ∧ dig.links.u.txQueue.length ≤ 8
    ∧ fullUp.mgmt.unit = .replying [1, 0] false ∧ dig.mgmt.unit = .free
    ∧ ((List.finRange 24).filter fun i => (dig.status i).report).length < 8 - dig.links.u.txQueue.length :=
  ⟨by decide, by decide, rfl, rfl, by decide⟩

/-- The watchdog due to the millisecond, and EXPIRED; the cycle timer due, with the Governor busy and free; a generated
operation that waited, with the timer not due. -/
theorem witness_WatchdogAndCycleTimerExpire :
    let s : State := { dig with image := { dig.image with timeBase := 700060 } }
    let c : State := { dig with gov := { dig.gov with cycleTimer := some 699980 } }
    let w : State := { dig with gov := { dig.gov with cycleTimer := some 699981, genWaiting := true } }
    s.working = true ∧ s.links.watchdog = .running 700000 ∧ s.referenceTimeout ≤ since s.now 700000
    ∧ ({ s with links := { s.links with watchdog := .expired } } : State).links.watchdog = .expired
    ∧ c.gov.cycleTimer = some 699980 ∧ c.cyclePeriod ≤ since c.now 699980 ∧ c.gov.op = none
    ∧ (during c (opAt .rope 0 0 0 256)).gov.op = some (opAt .rope 0 0 0 256)
    ∧ w.gov.op = none ∧ w.gov.genWaiting = true ∧ w.gov.cycleTimer = some 699981
    ∧ ¬w.cyclePeriod ≤ since w.now 699981
    ∧ calm w walkStageIds ∧ stepAgrees w.walk.state w.walk.current :=
  ⟨rfl, rfl, by decide, rfl, rfl, by decide, rfl, rfl, rfl, rfl, rfl, by decide, by unfold calm; decide +kernel, rfl⟩

/-- At work with and without a validation; a commanded restart; a power-on reset; CLK stopped. -/
theorem witness_TimeBaseAdvances :
    dig.working = true ∧ (∀ v, dig.mgmt.unit ≠ .validating v)
    ∧ ({ dig with mgmt := ⟨[], .validating ⟨.config, 0, 0xFFFF⟩, 0⟩ } : State).working = true
    ∧ restarting.phase = .restarting true ∧ restarting.clk = true
    ∧ ({ dig with phase := .resetting .powerOn } : State).phase = .resetting .powerOn
    ∧ ({ dig with clk := false } : State).clk = false := ⟨rfl, fun _ h => (by cases h), rfl, rfl, rfl, rfl, rfl⟩

/-- A pin reset at exactly 2000 ns and just below; a reset in effect; the straps' two corrected values. -/
theorem witness_ResetTakesEffectAndEnds :
    (∃ ns, Instr.pinReset 2000 = .pinReset ns ∧ ResetKind.pin = .pin ∧ 2000 ≤ ns
      ∧ (dig.phase = .working ∨ ∃ b, dig.phase = .restarting b))
    ∧ (Instr.powerOnReset = .powerOnReset ∧ ResetKind.powerOn = .powerOn) ∧ 1999 < 2000
    ∧ ({ dig with phase := .resetting .pin } : State).phase = .resetting .pin
    ∧ (0 : BitVec 6).toNat = 0 ∧ (63 : BitVec 6).toNat = 63 :=
  ⟨⟨2000, rfl, rfl, by decide, .inl rfl⟩, ⟨rfl, rfl⟩, by decide, rfl, rfl, rfl⟩

/-- The RESTART reply on the line; a restart in effect, before and after the advance, with a frame of each outcome; one
held; CONFIG VALID or not. -/
theorem witness_CommandedRestart :
    let x : Sending := ⟨⟨⟨0xB6, 62, [9, 0], 0⟩, .restartReply⟩, false⟩
    let f := composeFrame 0x95 62 []
    let m := composeFrame 0x31 0 []
    let b : Frame := ⟨0x95, 62, [], f.check + 1⟩
    let s := receiving { restarting with phase := .restarting false } .d [0x95]
    (dig.setPort .u { dig.links.u with tx := some x }).links.u.tx = some x ∧ x.item.origin = .restartReply
    ∧ (s.clk = true ∧ s.phase = .restarting false ∧ (s.port .d).rx = .inFrame [0x95])
    ∧ ((receiving restarting .u []).phase = .restarting true ∧ ((receiving restarting .u []).port .u).rx = .inFrame [])
    ∧ (f.words.length ≤ 60 ∧ 0xC6 :: ([0x95] ++ f.bytes.drop 2) = f.bytes ∧ f.checkOk = true ∧ f.kind ≠ 0x31)
    ∧ (0xC6 :: ([0x95] ++ b.bytes.drop 2) = b.bytes ∧ b.checkOk = false)
    ∧ (0xC6 :: ([] ++ m.bytes.drop 1) = m.bytes ∧ m.checkOk = true ∧ m.kind = 0x31 ∧ m.words.length ≠ 6)
    ∧ (([0x95] ++ [3, 61] : List Byte).length = 3 ∧ ([0x95] ++ [3, 61] : List Byte)[2]? = some 61)
    ∧ (25000 < 25001 ∧ ∀ l, ([0x95] ++ [3] : List Byte)[2]? = some l →
        l.toNat ≤ 60 ∧ ([0x95] ++ [3] : List Byte).length < 5 + 2 * l.toNat)
    ∧ restarting.clk = true ∧ restarting.phase = .restarting true ∧ restarting.mode = .loading
    ∧ restarting.links.held = [(.d, .good ⟨0x52, 21, [], 0⟩)]
    ∧ restarting.pageValid .config = true
    ∧ ({ restarting with store := State.reset.store } : State).pageValid .config = false :=
  ⟨rfl, rfl, ⟨rfl, rfl, rfl⟩, ⟨rfl, rfl⟩, ⟨by decide, rfl, composeFrame_checkOk _ _ _, by decide⟩, ⟨rfl, by decide +kernel⟩
    , ⟨rfl, composeFrame_checkOk _ _ _, rfl, by decide⟩, ⟨rfl, rfl⟩, ⟨by decide, by intro l h; cases h⟩, rfl, rfl, rfl, rfl
    , by decide, by decide⟩

/-- CLK stopped. -/
theorem witness_ClockAndSupply :
    ({ dig with clk := false } : State).clk = false ∧ Instr.assembly ≠ .clockStop ∧ Instr.assembly ≠ .powerOnReset :=
  ⟨rfl, by decide, by decide⟩

/-- A REF with the commands at the ends of a word and the walk request 4, which is taken as NONE. -/
theorem witness_ReferenceOperationStarts :
    let f : Frame := ⟨0x31, 0, [0x7FFF, 0x8000, 1000, 4, 0xFFFF, 1], 0⟩
    RefStarts (withRef dig f) f ∧ f.words = [0x7FFF, 0x8000, 1000, 4, 0xFFFF, 1]
    ∧ RefStarts (withRef dig (refFrame 3)) (refFrame 3) := ⟨⟨rfl, rfl, rfl, rfl⟩, rfl, rfl, rfl, rfl, rfl⟩

/-- The rope stage next, in RUN with a VALID profile and hauling in or paying out; in HALT; in a walk session. -/
theorem witness_RopeStageGoverns :
    StageNext (during dig (opAt .rope 900 (-500) 0 192)) (opAt .rope 900 (-500) 0 192) .rope
    ∧ dig.pageValid dig.activePage = true
    ∧ StageNext (during dig { opAt .rope 0 1000 0 256 with mode := .halt }) { opAt .rope 0 1000 0 256 with mode := .halt }
        .rope
    ∧ StageNext (during grounded { opAt .rope 5 5 0 0 with session := true }) { opAt .rope 5 5 0 0 with session := true }
        .rope := ⟨⟨rfl, rfl, rfl⟩, by decide, ⟨rfl, rfl, rfl⟩, ⟨rfl, rfl, rfl⟩⟩

/-- The rope stage next, with a usable table and without one. -/
theorem witness_RopeStageEvaluates :
    StageNext (during dig (opAt .rope 600 700 0 256)) (opAt .rope 600 700 0 256) .rope
    ∧ StageNext (during State.reset (opAt .rope 600 700 0 256)) (opAt .rope 600 700 0 256) .rope :=
  ⟨⟨rfl, rfl, rfl⟩, rfl, rfl, rfl⟩

/-- A profile request of none, of the active profile, of a VALID one, of one that is not VALID and of 4; at a rest
point and not. -/
theorem witness_ProfileRequestAndSwitch :
    let op := fun w : Word => { opAt .rope 0 0 0 256 with profileRequest := w }
    let s : State := { dig with store := { dig.store with profiles := dig.store.profiles.set 3 ⟨.valid, profileWords⟩ } }
    let r : State := { s with
      image := { s.image with swing := heard 21 9000 0 0 }, gov := { s.gov with baseHoist := 0, baseDrag := 0 } }
    StageNext (during s (op 0xFFFF)) (op 0xFFFF) .rope ∧ StageNext (during s (op 0)) (op 0) .rope
    ∧ StageNext (during s (op 3)) (op 3) .rope ∧ s.pageValid (.profile 3) = true ∧ (3 : Word).toNat ≠ s.store.active.val
    ∧ StageNext (during s (op 1)) (op 1) .rope ∧ s.pageValid (.profile 1) = false
    ∧ StageNext (during s (op 4)) (op 4) .rope ∧ ¬(∃ n : Fin 4, n.val = (4 : Word).toNat ∧ s.pageValid (.profile n) = true)
    ∧ StageNext (during r (op 3)) (op 3) .rope ∧ r.gov.baseHoist = 0 ∧ r.image.swing.speed.natAbs ≤ r.restSwingSpeed
    ∧ s.gov.baseHoist ≠ 0 := by
  refine ⟨⟨rfl, rfl, rfl⟩, ⟨rfl, rfl, rfl⟩, ⟨rfl, rfl, rfl⟩, by decide, by decide, ⟨rfl, rfl, rfl⟩, by decide,
    ⟨rfl, rfl, rfl⟩, ?_, ⟨rfl, rfl, rfl⟩, rfl, by decide, by decide⟩
  rintro ⟨n, h, _⟩
  exact absurd n.isLt (by have : n.val = 4 := h; omega)

/-- Each cause of forcing, with the sector tested and not tested; an operation not forced. -/
theorem witness_SwingStageForcesOrGoverns :
    let op := opAt .swing 0 0 700 256
    StageNext (during dig { op with brakeRequest := true }) { op with brakeRequest := true } .swing
    ∧ dig.image.swing.state = .fresh ∧ dig.pageValid dig.activePage = true
    ∧ StageNext (during dig { op with session := true }) { op with session := true } .swing
    ∧ StageNext (during dig { op with mode := .loading }) { op with mode := .loading } .swing
    ∧ StageNext (during State.reset op) op .swing ∧ State.reset.image.swing.state ≠ .fresh
    ∧ State.reset.pageValid State.reset.activePage = false
    ∧ StageNext (during dig op) op .swing ∧ op.session = false ∧ op.mode = .run ∧ op.brakeRequest = false :=
  ⟨⟨rfl, rfl, rfl⟩, rfl, by decide, ⟨rfl, rfl, rfl⟩, ⟨rfl, rfl, rfl⟩, ⟨rfl, rfl, rfl⟩, by decide, by decide
    , ⟨rfl, rfl, rfl⟩, rfl, rfl, rfl⟩

/-- Assembly next, with a REF waiting, with three frames waiting and with four. -/
theorem witness_AssemblyPlacesRef :
    let op := opAt .assembly 0 0 0 256
    let q := fun n => (dig.setPort .d { dig.links.d with txQueue := List.replicate n ⟨⟨0x95, 3, [], 0⟩, .forwarded⟩ })
    StageNext (during fullUp op) op .assembly ∧ (∃ x ∈ fullUp.links.d.txQueue, x.origin = .reference)
    ∧ StageNext (during (q 3) op) op .assembly ∧ (q 3).links.d.txQueue.length < 4
    ∧ StageNext (during (q 4) op) op .assembly ∧ 4 ≤ (q 4).links.d.txQueue.length
    ∧ ¬∃ x ∈ (q 4).links.d.txQueue, x.origin = .reference :=
  ⟨⟨rfl, rfl, rfl⟩, by decide, ⟨rfl, rfl, rfl⟩, by decide, ⟨rfl, rfl, rfl⟩, by decide, by decide⟩

/-- No ID the walk stage evaluates has severity STOP in the ALARM page of the tests. -/
theorem calm_dig : calm dig walkStageIds := by unfold calm; decide +kernel

/-- A step of 11.2 in P3 with the queue at 7 and at 8. -/
def walkingQueue (n : Nat) : State :=
  let s := stepIn dig .step (some .p3) none
  { s with walk := { s.walk with queue := List.replicate n ⟨.reverse, 100, 690000⟩ } }

/-- The interlocks of 11.2 hold. -/
theorem grounded_interlocks : InterlocksMet grounded :=
  ⟨rfl, by decide, by decide, by decide, rfl, rfl, rfl, rfl, rfl, rfl⟩

/-- A new request in each direction: with the queue at 7 and at 8, from IDLE with the interlocks met and not met, in
HALT; from PREP with the step trying and not trying to start. -/
theorem witness_StepRequestIsTaken :
    let p := stepIn dig .prep none none
    let q := stepIn grounded .prep none none
    (RefStarts (withRef (walkingQueue 7) (refFrame 1)) (refFrame 1) ∧ RefStarts (withRef dig (refFrame 2)) (refFrame 2)
      ∧ RefStarts (withRef grounded (refFrame 1)) (refFrame 1))
    ∧ ((refFrame 1).words[3]? = some 1 ∧ Direction.forward = .forward ∧ dig.gov.edge ≠ .stepFwd)
    ∧ ((refFrame 2).words[3]? = some 2 ∧ Direction.reverse = .reverse ∧ dig.gov.edge ≠ .stepRev)
    ∧ (calm dig walkStageIds ∧ calm grounded walkStageIds)
    ∧ (stepAgrees (walkingQueue 7).walk.state (walkingQueue 7).walk.current ∧ ¬Tries (walkingQueue 7) (walkingQueue 7).walk
      ∧ (walkingQueue 7).walk.state ≠ .idle ∧ (walkingQueue 7).walk.queue.length < 8
      ∧ 8 ≤ (walkingQueue 8).walk.queue.length)
    ∧ (dig.mode = .run ∧ dig.pageValid .walk = true ∧ dig.image.swing.state = .fresh ∧ dig.walk.state = .idle
      ∧ dig.walk.queue = [] ∧ stepAgrees dig.walk.state dig.walk.current ∧ ¬InterlocksMet dig)
    ∧ (grounded.mode = .run ∧ grounded.pageValid .walk = true ∧ grounded.image.swing.state = .fresh
      ∧ grounded.walk.state = .idle ∧ grounded.walk.queue = [] ∧ InterlocksMet grounded)
    ∧ (({ dig with alarm := { dig.alarm with mode := .halt } } : State).mode ≠ .run)
    ∧ (stepAgrees p.walk.state p.walk.current ∧ ¬Tries p p.walk ∧ stepAgrees q.walk.state q.walk.current
      ∧ Tries q q.walk) :=
  ⟨⟨⟨rfl, rfl, rfl, rfl⟩, ⟨rfl, rfl, rfl, rfl⟩, ⟨rfl, rfl, rfl, rfl⟩⟩, ⟨rfl, rfl, by decide⟩, ⟨rfl, rfl, by decide⟩
    , ⟨calm_dig, calm_dig⟩
    , ⟨⟨_, _, rfl, rfl, by decide, rfl⟩, fun h => absurd h.1 (by decide), by decide, by decide, by decide⟩
    , ⟨rfl, by decide, rfl, rfl, rfl, rfl, fun h => absurd h.1 (by decide)⟩
    , ⟨rfl, by decide, rfl, rfl, rfl, grounded_interlocks⟩, by decide
    , ⟨⟨_, rfl, rfl, rfl, rfl⟩, fun h => absurd h.2.1 (by decide), ⟨_, rfl, rfl, rfl, rfl⟩, rfl, grounded_interlocks⟩⟩

/-- A new CANCEL in each state and phase. -/
theorem witness_CancelActsByPhase :
    RefStarts (withRef dig (refFrame 3)) (refFrame 3) ∧ (refFrame 3).words[3]? = some 3 ∧ dig.gov.edge ≠ .cancel
    ∧ calm dig walkStageIds ∧ stepAgrees dig.walk.state dig.walk.current
    ∧ stepAgrees (stepIn dig .prep none none).walk.state (stepIn dig .prep none none).walk.current
    ∧ (∀ ph, stepAgrees (stepIn dig .step (some ph) none).walk.state (stepIn dig .step (some ph) none).walk.current)
    ∧ stepAgrees (stepIn dig .setdown (some .p2) (some .cancelled)).walk.state
        (stepIn dig .setdown (some .p2) (some .cancelled)).walk.current :=
  ⟨⟨rfl, rfl, rfl, rfl⟩, rfl, by decide, calm_dig, rfl, ⟨_, rfl, rfl, rfl, rfl⟩
    , fun _ => ⟨_, _, rfl, rfl, by simp, rfl⟩, ⟨_, rfl, .inl rfl, by decide, by decide⟩⟩

/-- The interlocks of 11.2 hold with a step in PREP, near the steer angle and not; they do not hold while digging; a
repeated request and a new NONE; IDLE with a record queued. -/
theorem witness_StepStartsOrWaits :
    let s := stepIn grounded .prep none none
    let swung := fun angle : Nat => ({ s with image := { s.image with swing := heard 21 angle 0 0 } } : State)
    let c : CurrentStep := ⟨⟨.forward, 18200, 690000⟩, 690000, none, none, 0, 0, 0, 0, none⟩
    let n : State := { s with gov := { s.gov with edge := .stepFwd } }
    let q : State := { dig with walk := { dig.walk with queue := [⟨.reverse, 100, 690000⟩] } }
    (RefStarts (withRef s (refFrame 0)) (refFrame 0) ∧ walkRequestOf ((refFrame 0).words.getD 3 0) = s.gov.edge
      ∧ calm s walkStageIds ∧ stepAgrees s.walk.state s.walk.current ∧ (headTaken s s.walk).current = some c)
    ∧ (Tries (swung 18350) s.walk ∧ steerNear (swung 18350) c ∧ Tries (swung 18351) s.walk ∧ ¬steerNear (swung 18351) c)
    ∧ ¬Tries (stepIn dig .prep none none) (stepIn dig .prep none none).walk
    ∧ (RefStarts (withRef n (refFrame 0)) (refFrame 0) ∧ walkRequestOf ((refFrame 0).words.getD 3 0) = .none
      ∧ walkRequestOf ((refFrame 0).words.getD 3 0) ≠ n.gov.edge
      ∧ walkRequestOf ((refFrame 1).words.getD 3 0) = n.gov.edge)
    ∧ (stepAgrees q.walk.state q.walk.current ∧ (headTaken q q.walk).state = .prep) :=
  ⟨⟨⟨rfl, rfl, rfl, rfl⟩, rfl, calm_dig, ⟨_, rfl, rfl, rfl, rfl⟩, rfl⟩
    , ⟨⟨rfl, rfl, by decide, by decide, by decide, rfl, rfl, rfl, rfl, rfl, rfl⟩, by unfold steerNear; decide
      , ⟨rfl, rfl, by decide, by decide, by decide, rfl, rfl, rfl, rfl, rfl, rfl⟩, by unfold steerNear; decide⟩
    , fun h => absurd h.2.1 (by decide), ⟨⟨rfl, rfl, rfl, rfl⟩, rfl, by decide, rfl⟩, rfl, rfl⟩

/-- A walk stage with a request that repeats and with a new one, in STEP, in SETDOWN, and with the WALK page not VALID. -/
theorem witness_WalkReferenceIsSlewed :
    let s := stepIn dig .step (some .p2) none
    let d := stepIn dig .setdown (some .p2) (some .halted)
    let e : State := { State.reset with alarm := dig.alarm, store := { dig.store with walk := ⟨.empty, []⟩ } }
    RefStarts (withRef s (refFrame 0)) (refFrame 0) ∧ walkRequestOf ((refFrame 0).words.getD 3 0) = s.gov.edge
    ∧ RefStarts (withRef s (refFrame 2)) (refFrame 2) ∧ walkRequestOf ((refFrame 2).words.getD 3 0) ≠ s.gov.edge
    ∧ calm s walkStageIds ∧ stepAgrees s.walk.state s.walk.current ∧ s.pageValid .walk = true
    ∧ stepAgrees d.walk.state d.walk.current
    ∧ RefStarts (withRef e (refFrame 0)) (refFrame 0) ∧ e.pageValid .walk = false ∧ calm e walkStageIds :=
  ⟨⟨rfl, rfl, rfl, rfl⟩, rfl, ⟨rfl, rfl, rfl, rfl⟩, by decide, calm_dig, ⟨_, _, rfl, rfl, by decide, rfl⟩, by decide
    , ⟨_, rfl, .inl rfl, by decide, by decide⟩, ⟨rfl, rfl, rfl, rfl⟩, by decide, by unfold calm; decide +kernel⟩

/-- A grid of two lines at each of its edges and between them; fractions at both ends; a usable table. -/
theorem witness_EnvelopeLookupAndInterpolation :
    2 ≤ 2 ∧ 0 < 1000 ∧ 2000 ≤ 2000 ∧ 2000 + (2 - 1) * 1000 ≤ 3000 ∧ 2000 < 2999 ∧ 2999 < 2000 + (2 - 1) * 1000
    ∧ 0 ≤ 256 ∧ 256 ≤ 256
    ∧ dig.pageValid dig.activePage = true ∧ dig.image.hoist.state = .fresh ∧ dig.image.drag.state = .fresh := by
  decide +kernel

/-- Without a usable table, and with one: 5.9 has the bucket nearest the node (2, 2); a fraction of 128 and of 127. -/
theorem witness_ModifiersLowerLimits :
    let known := fun s : State =>
      s.pageValid s.activePage = true ∧ s.image.hoist.state = .fresh ∧ s.image.drag.state = .fresh
    let ropes := fun hoist drag => ({ dig with
      image := { dig.image with hoist := heard 11 hoist 0 0, drag := heard 12 drag 0 0 } } : State)
    ¬known State.reset ∧ known dig ∧ known (ropes 4500 7200)
    ∧ ((ropes 4500 7200).hoistLookup.fraction = 128 ∧ (ropes 4500 7200).zoneNow = .carry)
    ∧ ((ropes 4499 7200).hoistLookup.fraction = 127 ∧ (ropes 4499 7200).zoneNow = .dig) := by decide +kernel

/-- A reversal, a growth, a decrease and a zero; HOIST FRESH and not. -/
theorem witness_SlewAndStoppingDistance :
    ((-300 : Int) ≠ 0 ∧ (450 : Int) ≠ 0 ∧ (-300 : Int).sign ≠ (450 : Int).sign)
    ∧ ((467 : Int) ≠ 0 ∧ (467 : Int).sign = (400 : Int).sign ∧ (400 : Int).natAbs < (467 : Int).natAbs)
    ∧ ((0 : Int).natAbs ≤ (-150 : Int).natAbs) ∧ dig.image.hoist.state = .fresh
    ∧ State.reset.image.hoist.state ≠ .fresh := by decide

/-- 6.9: outside the HARD_END sector with the command following the motion; at its first angle, inside it; inside a
SPEED sector whose speed is below the uncapped limit, and one whose speed is the global
limit. -/
theorem witness_SwingLimitTapers :
    let x : Sector := ⟨14500, 2000, .hardEnd, 0, 0⟩
    let y := fun v : Nat => (⟨8000, 2000, .speed, 0, v⟩ : Sector)
    let words := fun v : Word => profileWords.filter (fun c => decide (c.1 < 1298))
      ++ [(1298, 1), (1299, 8000), (1300, 2000), (1301, 2), (1303, v)]
    let slow := fun v : Word =>
      ({ dig with store := { dig.store with profiles := Vector.replicate 4 ⟨.valid, words v⟩ } } : State)
    sectorsOf dig.profileWords = [x] ∧ x.kind = .hardEnd ∧ ¬angleSub dig.image.swing.position x.start < x.width
    ∧ angleSub 14500 x.start < x.width ∧ (700 : Int) ≠ 0 ∧ (700 : Int).sign = dig.image.swing.speed.sign
    ∧ sectorsOf State.reset.profileWords = []
    ∧ (sectorsOf (slow 300).profileWords = [y 300] ∧ angleSub (slow 300).image.swing.position 8000 < 2000
      ∧ (slow 300).swingLimit 700 = 300)
    ∧ (sectorsOf (slow 1000).profileWords = [y 1000] ∧ (slow 1000).swingLimit 700 = proSwingLimit.read profileWords) := by
  decide +kernel

/-- The widest sector, the narrowest, and an angle inside and outside. -/
theorem witness_SectorGeometry :
    let x : Sector := ⟨35999, 35999, .hardEnd, 0, 0⟩
    let y : Sector := ⟨0, 1, .hardEnd, 0, 0⟩
    0 < 36000 ∧ x.start < 36000 ∧ 1 ≤ x.width ∧ x.width ≤ 35999 ∧ x.inside 0 = true ∧ x.inside 35998 = false
    ∧ 1 ≤ y.width ∧ y.inside 0 = true ∧ y.inside 35999 = false := by decide

/-- A validation read to its end: failing its check word test, failing at its first field, passing every check. -/
theorem witness_ValidationGivesOutcome :
    let s := fun (ws : Memory) (reg : Word) => ({ State.reset with
      store := { State.reset.store with config := ⟨.validating, ws⟩ }
      mgmt := ⟨[], .validating ⟨.config, 32, reg⟩, 0⟩ } : State)
    (s [] 5).working = true ∧ (s [] 5).mgmt.unit = .validating ⟨.config, 32, 5⟩ ∧ PageId.config.size ≤ 32
    ∧ ((s [] 5).page .config).state = .validating ∧ (5 : Word) ≠ Memory.read [] 31
    ∧ (s [] 0).mgmt.unit = .validating ⟨.config, 32, 0⟩ ∧ (0 : Word) = Memory.read [] 31
    ∧ structureChecks 62 [] .config = [] ++ (0, false) :: (structureChecks 62 [] .config).tail
    ∧ (s configWords 0).mgmt.unit = .validating ⟨.config, 32, 0⟩ ∧ (0 : Word) = Memory.read configWords 31
    ∧ ∀ x ∈ structureChecks 62 configWords .config, x.2 = true :=
  ⟨rfl, rfl, by decide, rfl, by decide, rfl, rfl, by decide +kernel, rfl, by decide, by decide +kernel⟩

/-- The check word of the profile's last word, from the right register and from a wrong one. -/
theorem profile_last_word :
    crcOver profileWords 1408 1407 1 0 = Memory.read profileWords 1407
    ∧ crcOver profileWords 1408 1407 1 9 ≠ Memory.read profileWords 1407 := by decide +kernel

/-- The scan in the ALARM page with 65 and with 64 words to come, running on from it into WALK, and passing over WALK
where it is not VALID; at the last word of the active profile, where the pass ends; a wrong check there, in CONFIG with a
step in STEP, and at the last word of WALK. -/
theorem witness_ScanFindsCorruption :
    let scanning := fun (s : State) (id : PageId) (next : Nat) (reg : Word) =>
      ({ s with store := { s.store with scan := some ⟨id, next, reg⟩, scanDue := true } } : State)
    let s := scanning dig
    let bare : State := { dig with store := { dig.store with walk := ⟨.written, walkWords⟩ } }
    let moving := scanning (stepIn dig .step (some .p3) none) .config 31 5
    let words := fun (u : State) (id : PageId) (k : Nat) =>
      if u.pageValid id = true then (List.range (id.size - k)).map fun n => (id, k + n) else []
    let pass := fun u : State => words u .alarm 100 ++ words u .walk 0
    (s .alarm 63 5).working = true ∧ (s .alarm 63 5).mode ≠ .loading ∧ (s .alarm 63 5).store.scanDue = true
    ∧ (s .alarm 63 5).pageValid .alarm = true ∧ 64 < PageId.alarm.size - 63 ∧ PageId.alarm.size - 64 ≤ 64
    ∧ ((pass dig)[64]? = some (.walk, 36) ∧ (pass bare).length = 28 ∧ bare.pageValid bare.activePage = true
      ∧ (pass dig)[27]? = some (.alarm, PageId.alarm.size - 1))
    ∧ (s (.profile 0) 1407 0).pageValid (.profile 0) = true ∧ PageId.profile 0 = dig.activePage
    ∧ (words dig (.profile 0) 1407 = [(.profile 0, 1407)])
    ∧ (crcOver profileWords 1408 1407 1 0 = Memory.read profileWords 1407
      ∧ crcOver profileWords 1408 1407 1 9 ≠ Memory.read profileWords 1407)
    ∧ (stepAgrees moving.walk.state moving.walk.current ∧ moving.image.walk.state = .fresh ∧ moving.walk.state = .step
      ∧ (words moving .config 31).head? = some (.config, PageId.config.size - 1)
      ∧ crcOver configWords 32 31 1 5 ≠ Memory.read configWords 31
      ∧ crcOver walkWords 64 63 1 5 ≠ Memory.read walkWords 63) :=
  ⟨rfl, by decide, rfl, by decide, by decide, by decide, by decide +kernel, by decide, rfl, by decide +kernel
    , profile_last_word, ⟨_, _, rfl, rfl, by decide, rfl⟩, rfl, rfl, by decide +kernel
    , by decide +kernel, by decide +kernel⟩

/-- The pages of the test states are in canonical form. -/
theorem dig_pages_wf : ∀ j, Memory.wf (dig.page j).words := by
  intro id
  match id with
  | .config => decide +kernel
  | .alarm => decide +kernel
  | .walk => decide +kernel
  | .profile 0 => decide +kernel
  | .profile 1 => decide +kernel
  | .profile 2 => decide +kernel
  | .profile 3 => decide +kernel

/-- The last word of CONFIG, 56 words, and one beyond; refused in RUN for a table page and for a profile in use, with
a step in hand for CONFIG; accepted for a spare profile and, outside RUN, for CONFIG. -/
theorem witness_WritePageStoresWords :
    Serving (asked dig 4 [0, 31, 7]) 4 [0, 31, 7] ∧ (∀ j, Memory.wf ((asked dig 4 [0, 31, 7]).page j).words)
    ∧ pageOfId (0 : Word).toNat = some .config ∧ (31 : Word).toNat + ([7] : List Word).length ≤ PageId.config.size
    ∧ dig.mode = .run ∧ Serving (asked dig 4 (7 :: 1352 :: List.replicate 56 1)) 4 (7 :: 1352 :: List.replicate 56 1)
    ∧ pageOfId (7 : Word).toNat = some (.profile 3) ∧ (1352 : Word).toNat + 56 ≤ (PageId.profile 3).size
    ∧ pageOfId (4 : Word).toNat = some (.profile 0) ∧ PageId.profile 0 = dig.activePage
    ∧ ({ stepIn dig .setdown (some .p2) (some .halted) with alarm := { dig.alarm with mode := .halt } } : State).mode ≠ .run
    ∧ (stepIn dig .setdown (some .p2) (some .halted)).walk.state ≠ .idle
    ∧ State.reset.mode ≠ .run ∧ Serving (asked State.reset 4 [0, 32, 7]) 4 [0, 32, 7]
    ∧ ¬(32 : Word).toNat + ([7] : List Word).length ≤ PageId.config.size
    ∧ Serving (asked State.reset 4 [3, 0, 7]) 4 [3, 0, 7] ∧ pageOfId (3 : Word).toNat = none
    ∧ State.reset.pageValid .config = false ∧ dig.pageValid .config = true :=
  ⟨⟨rfl, rfl, _, _, rfl, rfl⟩, dig_pages_wf, rfl, by decide, rfl, ⟨rfl, rfl, _, _, rfl, rfl⟩, rfl, by decide, rfl, rfl
    , by decide, by decide, by decide, ⟨rfl, rfl, _, _, rfl, rfl⟩, by decide, ⟨rfl, rfl, _, _, rfl, rfl⟩, rfl
    , by decide, by decide⟩

/-- VALIDATE of no page, of a table page and of the active profile in RUN, with a step in hand, and accepted. -/
theorem witness_ValidateStartsRun :
    Serving (asked dig 5 [8]) 5 [8] ∧ pageOfId (8 : Word).toNat = none
    ∧ Serving (asked dig 5 [2]) 5 [2] ∧ pageOfId (2 : Word).toNat = some .walk ∧ dig.mode = .run
    ∧ Serving (asked dig 5 [4]) 5 [4] ∧ pageOfId (4 : Word).toNat = some dig.activePage
    ∧ (stepIn dig .prep none none).walk.state ≠ .idle
    ∧ Serving (asked State.reset 5 [0]) 5 [0] ∧ pageOfId (0 : Word).toNat = some .config
    ∧ State.reset.mode ≠ .run ∧ State.reset.walk.state = .idle ∧ State.reset.pageValid .config = false :=
  ⟨⟨rfl, rfl, _, _, rfl, rfl⟩, rfl, ⟨rfl, rfl, _, _, rfl, rfl⟩, rfl, rfl, ⟨rfl, rfl, _, _, rfl, rfl⟩, rfl, by decide
    , ⟨rfl, rfl, _, _, rfl, rfl⟩, rfl, by decide, rfl, by decide⟩

/-- A request with no code, with the codes 0, 16 and 15 with an argument too many, and WRITE_PAGE with one argument. -/
theorem witness_MalformedRequestsAndClearCounters :
    dig.working = true ∧ dig.mgmt.unit = .free
    ∧ ({ dig with mgmt := ⟨[⟨0x95, 62, [], 0⟩], .free, 0⟩ } : State).mgmt.queue = ⟨0x95, 62, [], 0⟩ :: []
    ∧ (asked dig 0 []).mgmt.queue = ⟨0x95, 62, [0], 0⟩ :: [] ∧ (asked dig 16 []).mgmt.queue = ⟨0x95, 62, [16], 0⟩ :: []
    ∧ 16 ≤ (16 : Word).toNat
    ∧ (asked dig 15 [1]).mgmt.queue = ⟨0x95, 62, wordOfNat 15 :: [1], 0⟩ :: [] ∧ ¬([1] : List Word).length = 0
    ∧ (asked dig 4 [0]).mgmt.queue = ⟨0x95, 62, wordOfNat 4 :: [0], 0⟩ :: [] ∧ ¬2 ≤ ([0] : List Word).length
    ∧ Serving (asked dig 15 []) 15 [] :=
  ⟨rfl, rfl, rfl, rfl, rfl, by decide, rfl, by decide, rfl, by decide, ⟨rfl, rfl, _, _, rfl, rfl⟩⟩

theorem witness_StatusAndImageReport : Serving (asked alarmed 1 []) 1 [] ∧ Serving (asked alarmed 2 []) 2 [] :=
  ⟨⟨rfl, rfl, _, _, rfl, rfl⟩, ⟨rfl, rfl, _, _, rfl, rfl⟩⟩

/-- READ_PAGE up to the last word, of 58 and of 59 words; READ_ALARMS from 23 and from 24; READ_ALARM_STATUS of the
last 16 IDs and one beyond. -/
theorem witness_PageAndAlarmReadsReport :
    Serving (asked dig 3 [4, 1350, 58]) 3 [4, 1350, 58] ∧ pageOfId (4 : Word).toNat = some (.profile 0)
    ∧ (1350 : Word).toNat + (58 : Word).toNat ≤ (PageId.profile 0).size
    ∧ Serving (asked dig 3 [4, 0, 59]) 3 [4, 0, 59] ∧ ¬(59 : Word).toNat ≤ 58
    ∧ Serving (asked dig 3 [3, 0, 1]) 3 [3, 0, 1] ∧ pageOfId (3 : Word).toNat = none
    ∧ Serving (asked alarmed 11 [23]) 11 [23] ∧ (23 : Word).toNat ≤ 23
    ∧ Serving (asked alarmed 11 [24]) 11 [24] ∧ 24 ≤ (24 : Word).toNat
    ∧ Serving (asked dig 12 [8, 16]) 12 [8, 16] ∧ (8 : Word).toNat + (16 : Word).toNat ≤ 24
    ∧ Serving (asked dig 12 [9, 16]) 12 [9, 16] ∧ ¬(9 : Word).toNat + (16 : Word).toNat ≤ 24
    ∧ Serving (asked dig 12 [0, 0]) 12 [0, 0] ∧ ¬1 ≤ (0 : Word).toNat :=
  ⟨⟨rfl, rfl, _, _, rfl, rfl⟩, rfl, by decide, ⟨rfl, rfl, _, _, rfl, rfl⟩, by decide, ⟨rfl, rfl, _, _, rfl, rfl⟩, rfl
    , ⟨rfl, rfl, _, _, rfl, rfl⟩, by decide, ⟨rfl, rfl, _, _, rfl, rfl⟩, by decide, ⟨rfl, rfl, _, _, rfl, rfl⟩
    , by decide, ⟨rfl, rfl, _, _, rfl, rfl⟩, by decide, ⟨rfl, rfl, _, _, rfl, rfl⟩, by decide⟩

/-- READ_WALK part 0 with one and with two words, part 1 from 7 and from 8 and with no start, part 2; with and without
a current step. -/
theorem witness_WalkReadReports :
    Serving (asked dig 14 [0]) 14 (0 :: []) ∧ Serving (asked (stepIn dig .prep none none) 14 [0, 99]) 14 (0 :: [99])
    ∧ Serving (asked dig 14 [1, 7]) 14 [1, 7] ∧ (7 : Word).toNat ≤ 7
    ∧ Serving (asked dig 14 [1, 8]) 14 [1, 8] ∧ 8 ≤ (8 : Word).toNat
    ∧ Serving (asked dig 14 [1]) 14 [1] ∧ Serving (asked dig 14 [2]) 14 (2 :: []) :=
  ⟨⟨rfl, rfl, _, _, rfl, rfl⟩, ⟨rfl, rfl, _, _, rfl, rfl⟩, ⟨rfl, rfl, _, _, rfl, rfl⟩, by decide
    , ⟨rfl, rfl, _, _, rfl, rfl⟩, by decide, ⟨rfl, rfl, _, _, rfl, rfl⟩, ⟨rfl, rfl, _, _, rfl, rfl⟩⟩

/-- GO in RUN, without the pages, beside a STOP entry, and accepted; RESUME in LOADING, beside a STOP entry, with ID 0
present, without the pages, and accepted. -/
theorem witness_GoAndResumeEnterRun :
    let load : State := { dig with alarm := State.reset.alarm }
    let held : State := { dig with alarm := { dig.alarm with mode := .halt } }
    let stop : List Entry := [⟨1, true, .stop, 0, 0, 5, true⟩]
    let lost := held.setStatus 0 { held.status 0 with condition := true }
    let bare : State := { State.reset with alarm := held.alarm }
    Serving (asked dig 6 []) 6 [] ∧ dig.mode ≠ .loading
    ∧ State.reset.mode = .loading ∧ State.reset.pageValid .config = false
    ∧ load.mode = .loading ∧ load.pageValid .config = true ∧ load.pageValid .alarm = true ∧ load.pageValid .walk = true
    ∧ load.pageValid load.activePage = true ∧ ¬(∃ e ∈ load.alarm.list, e.severity = .stop)
    ∧ (∃ e ∈ stop, e.severity = .stop)
    ∧ Serving (asked State.reset 8 []) 8 [] ∧ State.reset.mode ≠ .halt ∧ Serving (asked held 8 []) 8 []
    ∧ held.mode = .halt ∧ (held.status idLinkUpLost).condition = false ∧ ¬(∃ e ∈ held.alarm.list, e.severity = .stop)
    ∧ (lost.status idLinkUpLost).condition = true ∧ lost.mode = .halt
    ∧ bare.mode = .halt ∧ bare.pageValid .config = false :=
  ⟨⟨rfl, rfl, _, _, rfl, rfl⟩, by decide, rfl, by decide, rfl, by decide, by decide, by decide, by decide, by decide
    , by decide, ⟨rfl, rfl, _, _, rfl, rfl⟩, by decide, ⟨rfl, rfl, _, _, rfl, rfl⟩, rfl, by decide, by decide
    , by decide, rfl, rfl, by decide⟩

/-- HALT in RUN with a step in each state and phase, and in LOADING; RESTART in RUN, with a step in SETDOWN outside
RUN, and accepted. -/
theorem witness_HaltAndRestartRequests :
    Serving (asked State.reset 7 []) 7 [] ∧ State.reset.mode ≠ .run ∧ Serving (asked dig 7 []) 7 [] ∧ dig.mode = .run
    ∧ stepAgrees dig.walk.state dig.walk.current
    ∧ stepAgrees (stepIn dig .prep none none).walk.state (stepIn dig .prep none none).walk.current
    ∧ (∀ ph, stepAgrees (stepIn dig .step (some ph) none).walk.state (stepIn dig .step (some ph) none).walk.current)
    ∧ stepAgrees (stepIn dig .setdown (some .p4) (some .cancelled)).walk.state
        (stepIn dig .setdown (some .p4) (some .cancelled)).walk.current
    ∧ Serving (asked dig 9 []) 9 [] ∧ Serving (asked State.reset 9 []) 9 [] ∧ State.reset.walk.state = .idle
    ∧ (stepIn State.reset .setdown (some .p4) (some .halted)).walk.state ≠ .idle :=
  ⟨⟨rfl, rfl, _, _, rfl, rfl⟩, by decide, ⟨rfl, rfl, _, _, rfl, rfl⟩, rfl, rfl, ⟨_, rfl, rfl, rfl, rfl⟩
    , fun _ => ⟨_, _, rfl, rfl, by simp, rfl⟩, ⟨_, rfl, .inr (.inr rfl), by decide, by decide⟩
    , ⟨rfl, rfl, _, _, rfl, rfl⟩, ⟨rfl, rfl, _, _, rfl, rfl⟩, rfl, by decide⟩

/-- ACK_ALARM of an entry, of an ID out of the list, of every entry, and of 24. -/
theorem witness_AcknowledgementActs :
    Serving (asked alarmed 10 [5]) 10 [5] ∧ (alarmed.alarm.list.map (·.id)).Nodup
    ∧ (5 : Word) = wordOfNat (5 : AlarmId).val ∧ alarmed.entry? 5 = some staleDrag
    ∧ Serving (asked alarmed 10 [23]) 10 [23] ∧ (23 : Word) = wordOfNat (23 : AlarmId).val ∧ alarmed.entry? 23 = none
    ∧ Serving (asked alarmed 10 [255]) 10 [255] ∧ Serving (asked alarmed 10 [24]) 10 [24] ∧ (24 : Word) ≠ 255 :=
  ⟨⟨rfl, rfl, _, _, rfl, rfl⟩, by decide, rfl, by decide, ⟨rfl, rfl, _, _, rfl, rfl⟩, rfl, by decide
    , ⟨rfl, rfl, _, _, rfl, rfl⟩, ⟨rfl, rfl, _, _, rfl, rfl⟩, by decide⟩

/-- FORCE of the IDs 1, 2, 23 and 24, with the settings 0, 1 and 2, in RUN and in LOADING. -/
theorem witness_ForceSetsFlag :
    Serving (asked dig 13 [1, 1]) 13 [1, 1] ∧ (1 : Word).toNat < 2 ∧ Serving (asked dig 13 [24, 0]) 13 [24, 0]
    ∧ Serving (asked dig 13 [2, 2]) 13 [2, 2] ∧ 2 ≤ (2 : Word).toNat ∧ Serving (asked dig 13 [23, 1]) 13 [23, 1]
    ∧ dig.mode = .run ∧ Serving (asked State.reset 13 [2, 1]) 13 [2, 1]
    ∧ Serving (asked State.reset 13 [23, 0]) 13 [23, 0] ∧ State.reset.mode ≠ .run
    ∧ (23 : AlarmId).val = (23 : Word).toNat ∧ (2 : AlarmId).val = (2 : Word).toNat :=
  ⟨⟨rfl, rfl, _, _, rfl, rfl⟩, by decide, ⟨rfl, rfl, _, _, rfl, rfl⟩, ⟨rfl, rfl, _, _, rfl, rfl⟩, by decide
    , ⟨rfl, rfl, _, _, rfl, rfl⟩, rfl, ⟨rfl, rfl, _, _, rfl, rfl⟩, ⟨rfl, rfl, _, _, rfl, rfl⟩, by decide, rfl, rfl⟩

/-- An evaluation in each direction that leaves the mode alone. -/
theorem witness_EvaluationsAreTaken :
    (dig.evaluate idEnvelopeClamp true).mode = dig.mode ∧ (alarmed.evaluate 5 false).mode = alarmed.mode := by decide

/-- A list with a DERATE entry at the least factor and one at the greatest; a state whose held pattern is the sounding
entry's, an evaluation in it that leaves the mode, and the acknowledgement of its entry. -/
theorem witness_ListGivesDerateAndHorn :
    let l : List Entry := [{ staleDrag with factor := 0 }, ⟨12, false, .derate, 4, 256, 5, true⟩, ⟨17, false, .info, 0, 0, 5, false⟩]
    ((∀ e ∈ l, e.factor ≤ 256) ∧ (∃ e ∈ l, e.severity = .derate)
      ∧ soundingEntry l = some { staleDrag with factor := 0 })
    ∧ alarmed.alarm.horn = (soundingEntry alarmed.alarm.list).map (·.horn)
    ∧ (alarmed.evaluate 12 true).mode = alarmed.mode
    ∧ Serving (asked alarmed 10 [wordOfNat (5 : AlarmId).val]) 10 [wordOfNat (5 : AlarmId).val] :=
  ⟨by decide, by decide, by decide, ⟨rfl, rfl, _, _, rfl, rfl⟩⟩

end Sys2Proof.Tests
end

section
/-! PROOFS. The reference watchdog and the cycle timer (R19, R63): which operations of the Link Ports, the Frame Router
and the Machine Image leave them alone. -/

namespace Sys2Proof.Machine

/-! ### What the shared operations leave of the links and the Governor -/

@[simp] theorem State.settle_watchdog (s : State) : s.settle.links.watchdog = s.links.watchdog := by
  rw [(State.settle_frame s).1]; rfl
@[simp] theorem State.withWalk_links (s : State) (w : WalkSeq) : (s.withWalk w).links = s.links := by
  rw [State.withWalk_frame]; rfl
@[simp] theorem State.withWalk_gov (s : State) (w : WalkSeq) : (s.withWalk w).gov = s.gov := by
  rw [State.withWalk_frame]; rfl
@[simp] theorem State.walkAxisLost_links (s : State) : s.walkAxisLost.links = s.links := by
  rw [State.walkAxisLost_frame]; rfl
@[simp] theorem State.walkAxisLost_gov (s : State) : s.walkAxisLost.gov = s.gov := by
  rw [State.walkAxisLost_frame]; rfl
@[simp] theorem State.evaluateAll_links (s : State) (evs : List (AlarmId × Bool)) :
    (s.evaluateAll evs).links = s.links := by
  rw [State.evaluateAll_frame]; rfl
@[simp] theorem State.evaluateAll_gov (s : State) (evs : List (AlarmId × Bool)) :
    (s.evaluateAll evs).gov = s.gov := by
  rw [State.evaluateAll_frame]; rfl

/-- The watchdog and the cycle timer of `t` stand as in `s` (R19, R63). -/
structure LinkTimersKept (s t : State) : Prop where
  watchdog   : t.links.watchdog = s.links.watchdog
  cycleTimer : t.gov.cycleTimer = s.gov.cycleTimer

namespace LinkTimersKept

variable {s t : State}

theorem refl (s : State) : LinkTimersKept s s := ⟨rfl, rfl⟩

theorem trans {u : State} (h : LinkTimersKept s t) (k : LinkTimersKept t u) : LinkTimersKept s u :=
  ⟨k.watchdog.trans h.watchdog, k.cycleTimer.trans h.cycleTimer⟩

theorem of_links_gov (hl : t.links = s.links) (hg : t.gov = s.gov) : LinkTimersKept s t :=
  ⟨by rw [hl], by rw [hg]⟩

theorem setPort (h : LinkTimersKept s t) (p : Port) (x : LinkPort) : LinkTimersKept s (t.setPort p x) :=
  h.trans ⟨State.setPort_watchdog t p x, rfl⟩

theorem settle (h : LinkTimersKept s t) : LinkTimersKept s t.settle := h.trans ⟨by simp, by simp⟩

theorem evaluate (h : LinkTimersKept s t) (i : AlarmId) (b : Bool) : LinkTimersKept s (t.evaluate i b) :=
  h.trans (of_links_gov (by simp) (by simp))

theorem offerForward (h : LinkTimersKept s t) (p : Port) (f : Frame) : LinkTimersKept s (t.offerForward p f) := by
  simp only [State.offerForward]
  split
  · exact h.setPort p _
  · exact h.setPort p _

theorem offerRequest (h : LinkTimersKept s t) (f : Frame) : LinkTimersKept s (t.offerRequest f) := by
  simp only [State.offerRequest]
  split
  · exact h.trans ⟨rfl, rfl⟩
  · exact h.trans ⟨rfl, rfl⟩

/-! ### A frame received (R4 to R9, R21) -/

theorem enqueueRx (h : LinkTimersKept s t) (p : Port) (f : Frame) : LinkTimersKept s (t.enqueueRx p f) := by
  simp only [State.enqueueRx]
  split
  · exact h.setPort p _
  · exact h.setPort p _

theorem takeOutcome (h : LinkTimersKept s t) (p : Port) (o : RxOutcome) : LinkTimersKept s (t.takeOutcome p o) := by
  cases o with
  | good f => exact ((h.setPort p _).evaluate _ _).enqueueRx p f
  | badCheck => exact (h.setPort p _).evaluate _ _
  | badLength => exact (h.setPort p _).evaluate _ _
  | truncated => exact (h.setPort p _).evaluate _ _
  | misformed => exact (h.setPort p _).evaluate _ _

/-- The end of a frame leaves them alone, whatever its outcome, and also where the outcome is held. -/
theorem endFrame (h : LinkTimersKept s t) (p : Port) (o : RxOutcome) : LinkTimersKept s (t.endFrame p o) := by
  simp only [State.endFrame]
  split
  · exact ((h.setPort p _).takeOutcome p o).settle
  · exact (h.setPort p _).trans ⟨rfl, rfl⟩

theorem frameComplete (p : Port) (bytes : List Byte) (s : State) :
    LinkTimersKept s (Machine.frameComplete p bytes s) := by
  simp only [Machine.frameComplete]
  split
  · exact refl s
  · split
    · exact (refl s).endFrame p _
    · exact refl s

/-! ### A frame of the D-port routed (R11, R27 to R31) -/

theorem walkSample (h : LinkTimersKept s t) : LinkTimersKept s t.walkSample := by
  simp only [State.walkSample]
  split
  · exact h
  · split
    · split
      · exact h.trans (of_links_gov (by simp) (by simp))
      · split
        · exact h.trans (of_links_gov (by simp) (by simp))
        · split
          · exact h.trans (of_links_gov (by simp) (by simp))
          · exact h.trans (of_links_gov (by simp) (by simp))
    · exact h

theorem swingSample (h : LinkTimersKept s t) : LinkTimersKept s t.swingSample := by
  simp only [State.swingSample]
  split
  · exact h
  · split
    · exact h.evaluate _ _
    · exact h

theorem goodSample (h : LinkTimersKept s t) (a : Axis) (x : Sample) (order : List Nat) :
    LinkTimersKept s (t.goodSample a x order) := by
  have evaluated (r : AxisRecord) (evs : List (AlarmId × Bool)) : LinkTimersKept s ((t.setAxis a r).evaluateAll evs) :=
    h.trans (of_links_gov (by simp) (by simp))
  cases a with
  | hoist => exact evaluated _ _
  | drag => exact evaluated _ _
  | swing => exact (evaluated _ _).swingSample
  | walk => exact (evaluated _ _).walkSample

theorem takeSample (h : LinkTimersKept s t) (f : Frame) (order : List Nat) :
    LinkTimersKept s (t.takeSample f order) := by
  simp only [State.takeSample]
  split
  · exact h
  · split
    · exact h.goodSample _ _ order
    · exact h.trans ⟨rfl, rfl⟩

theorem routeDown (h : LinkTimersKept s t) (f : Frame) (upFirst : Bool) (order : List Nat) :
    LinkTimersKept s (t.routeDown f upFirst order) := by
  simp only [State.routeDown]
  split
  · split
    · exact ((h.offerForward .u f).takeSample f order).settle
    · exact ((h.takeSample f order).settle.offerForward .u f).settle
  · split
    · exact (h.offerForward .u f).settle
    · exact h.setPort .d _

theorem routeDFrame (upFirst : Bool) (order : List Nat) (s : State) :
    LinkTimersKept s (Machine.routeDFrame upFirst order s) := by
  simp only [Machine.routeDFrame, State.atWork]
  split
  · split
    · exact refl s
    · exact ((refl s).setPort .d _).routeDown _ upFirst order
  · exact refl s

/-! ### A frame of the U-port routed that is no valid REF (R10) -/

theorem routeUp (h : LinkTimersKept s t) {f : Frame} (hf : ¬(f.kind = kindRef ∧ f.station = 0)) :
    LinkTimersKept s (t.routeUp f) := by
  simp only [State.routeUp]
  split
  · rename_i hk
    rw [if_neg fun h0 => hf ⟨hk, h0⟩]
    exact h.setPort .u _
  · split
    · split
      · exact h.offerRequest f
      · exact h.offerForward .d f
    · exact h.setPort .u _

theorem routeUFrame {s : State} {f : Frame} {rest : List Frame} (hq : s.links.u.rxQueue = f :: rest)
    (hf : ¬(f.kind = kindRef ∧ f.station = 0)) : LinkTimersKept s (Machine.routeUFrame s) := by
  simp only [Machine.routeUFrame, State.atWork, State.port_u, hq]
  split
  · split
    · rename_i hcons
      cases hcons
      exact (((refl s).setPort .u _).routeUp hf).settle
    · exact refl s
  · exact refl s

end LinkTimersKept

end Sys2Proof.Machine
end

section
/-! PROOFS. What each operation of the Alarm Unit does to the status record and the entry of one ID, and that it leaves
the other IDs alone (R143, R146 to R153). -/

namespace Sys2Proof.Machine

/-! ### The status record and the entry of the ID in hand -/

@[simp] theorem State.hornFollow_entry? (s : State) (i : AlarmId) : s.hornFollow.entry? i = s.entry? i := by
  simp only [State.entry?, State.hornFollow_list]

@[simp] theorem State.rearmTest_entry? (s : State) (i j : AlarmId) : (s.rearmTest i).entry? j = s.entry? j := by
  simp only [State.entry?, State.rearmTest_list]

/-- The re-arm test arms the ID where its rearm count has reached the definition's, and changes nothing else (R150). -/
@[simp] theorem State.rearmTest_status (s : State) (i : AlarmId) :
    (s.rearmTest i).status i = { s.status i with
      armed := (s.status i).armed || decide ((s.definition i).rearm ≤ (s.status i).rearm.toNat) } := by
  simp only [State.rearmTest]
  split
  · rename_i h
    obtain ⟨-, due⟩ := Bool.and_eq_true_iff.mp h
    rw [State.status_setStatus, due, Bool.or_true]
  · rename_i h
    have stays : ((s.status i).armed || decide ((s.definition i).rearm ≤ (s.status i).rearm.toNat))
        = (s.status i).armed := by
      revert h
      cases (s.status i).armed <;> simp
    rw [stays]

theorem State.raise_status (s : State) (i : AlarmId) :
    (s.raise i).status i =
      { s.status i with occurred := bump (s.status i).occurred, lastRaise := s.now, report := true } := by
  have noted (x : AlarmStatus) (l : List Entry) : (State.hornFollow ((s.setStatus i x).setAlarm
      { (s.setStatus i x).alarm with list := l })).status i = x := by
    rw [State.hornFollow_status]
    exact State.status_setStatus s i x
  simp only [State.raise]
  split
  · exact noted _ _
  · exact noted _ _

theorem State.raise_entry? {s : State} {i : AlarmId} (h : s.entry? i = none) :
    (s.raise i).entry? i = some (entryOf s i) := by
  simp only [State.entry?] at h
  simp [State.entry?, State.raise_list, List.find?_append, h, entryOf]

theorem State.removeEntry_status (s : State) (e : Entry) :
    (s.removeEntry e).status e.id =
      if e.latched then { s.status e.id with report := true }
      else { s.status e.id with
        report := true, rearm := 0, armed := decide ((s.definition e.id).rearm = 0) } := by
  have hd (x : AlarmStatus) (l : List Entry) : ((State.hornFollow (s.setAlarm { s.alarm with list := l })).setStatus
      e.id x).definition e.id = s.definition e.id := by
    rw [State.hornFollow_frame]; rfl
  simp only [State.removeEntry]
  split
  · simp only [State.status_setStatus, State.hornFollow_status]; rfl
  · have kept (l : List Entry) (j : AlarmId) : (s.setAlarm { s.alarm with list := l }).status j = s.status j := rfl
    simp [hd, kept]

theorem State.removeEntry_entry? (s : State) (e : Entry) : (s.removeEntry e).entry? e.id = none := by
  simp [State.entry?]

/-! ### The other IDs -/

/-- From `s` to `t` the status record and the entry of every ID but `i` are unchanged (R143). -/
structure OthersKept (i : AlarmId) (s t : State) : Prop where
  status : ∀ j, j ≠ i → t.status j = s.status j
  entry  : ∀ j, j ≠ i → t.entry? j = s.entry? j

namespace OthersKept

variable {i : AlarmId} {s t u : State}

theorem refl (i : AlarmId) (s : State) : OthersKept i s s := ⟨fun _ _ => rfl, fun _ _ => rfl⟩

theorem trans (h : OthersKept i s t) (k : OthersKept i t u) : OthersKept i s u :=
  ⟨fun j hj => (k.status j hj).trans (h.status j hj), fun j hj => (k.entry j hj).trans (h.entry j hj)⟩

theorem setStatus (s : State) (i : AlarmId) (x : AlarmStatus) : OthersKept i s (s.setStatus i x) :=
  ⟨fun _ hj => State.status_setStatus_ne s x hj, fun _ _ => rfl⟩

theorem rearmTest (s : State) (i : AlarmId) : OthersKept i s (s.rearmTest i) := by
  simp only [State.rearmTest]
  split
  · exact setStatus s i _
  · exact refl i s

theorem raise (s : State) (i : AlarmId) : OthersKept i s (s.raise i) where
  status j hj := by
    have noted (x : AlarmStatus) (l : List Entry) : (State.hornFollow ((s.setStatus i x).setAlarm
        { (s.setStatus i x).alarm with list := l })).status j = s.status j := by
      rw [State.hornFollow_status]
      exact State.status_setStatus_ne s x hj
    simp only [State.raise]
    split
    · exact noted _ _
    · exact noted _ _
  entry j hj := by
    simp [State.entry?, State.raise_list, List.find?_append, Ne.symm hj]

theorem removeEntry (s : State) (e : Entry) : OthersKept e.id s (s.removeEntry e) := by
  have removed : OthersKept e.id s (State.hornFollow (s.setAlarm
      { s.alarm with list := s.alarm.list.filter fun x => decide (x.id ≠ e.id) })) := by
    refine ⟨fun j _ => State.hornFollow_status _ j, fun j hj => ?_⟩
    have same (x : Entry) : x.id ≠ e.id ∧ x.id = j ↔ x.id = j := ⟨And.right, fun hx => ⟨hx ▸ hj, hx⟩⟩
    rw [State.hornFollow_entry?]
    simp only [State.entry?, State.setAlarm_alarm, List.find?_filter, decide_eq_true_eq, same]
  simp only [State.removeEntry]
  split
  · exact removed.trans (setStatus _ _ _)
  · exact (removed.trans (setStatus _ _ _)).trans (rearmTest _ _)

end OthersKept

/-! ### A present evaluation (R147, R151) -/

/-- The state that a present evaluation has reached before its raise test (R147). -/
def State.markPresent (s : State) (i : AlarmId) : State :=
  s.setStatus i { s.status i with
    condition := true
    count := countAfter s i
    report := (s.status i).report || ((s.entry? i).isSome && !(s.status i).condition) }

/-- The raise test of the model is `raisesNow`. -/
theorem raiseTest_iff (s : State) (i : AlarmId) :
    (decide ((s.definition i).qualify ≤ (countAfter s i).toNat) && (s.definition i).enabled
      && !(s.definition i).masked && !(s.entry? i).isSome
      && ((s.definition i).latched || (s.status i).armed)) = true ↔ raisesNow s i := by
  simp [raisesNow, and_assoc]

theorem State.present0_of_raises {s : State} {i : AlarmId} (h : raisesNow s i) :
    s.present0 i = (s.markPresent i).raise i :=
  if_pos ((raiseTest_iff s i).mpr h)

theorem State.present0_of_stands {s : State} {i : AlarmId} (h : ¬raisesNow s i) : s.present0 i = s.markPresent i :=
  if_neg fun test => h ((raiseTest_iff s i).mp test)

theorem State.present0_others (s : State) (i : AlarmId) : OthersKept i s (s.present0 i) := by
  have marked : OthersKept i s (s.markPresent i) := .setStatus s i _
  by_cases h : raisesNow s i
  · rw [State.present0_of_raises h]
    exact marked.trans (.raise _ i)
  · rw [State.present0_of_stands h]
    exact marked

theorem State.present0_report {s : State} {i : AlarmId} (h : (s.status i).report = true) :
    ((s.present0 i).status i).report = true := by
  by_cases hr : raisesNow s i
  · rw [State.present0_of_raises hr, State.raise_status]
  · rw [State.present0_of_stands hr]
    simp [State.markPresent, h]

theorem State.raise_cause (s : State) (i : AlarmId) : (s.raise i).alarm.resetCause = s.alarm.resetCause := by
  simp only [State.raise]
  split <;> simp

theorem State.present0_cause (s : State) (i : AlarmId) :
    (s.present0 i).alarm.resetCause = s.alarm.resetCause := by
  by_cases hr : raisesNow s i
  · rw [State.present0_of_raises hr, State.raise_cause]; rfl
  · rw [State.present0_of_stands hr]; rfl

/-- A present evaluation is taken as R147, R151 and R168 say. -/
theorem State.present0_taken (s : State) (i : AlarmId) : TakenPresent s (s.present0 i) i := by
  by_cases h : raisesNow s i
  · have none_listed : s.entry? i = none := h.2.2.2.1
    have joined : ((s.markPresent i).raise i).entry? i = some (entryOf s i) := State.raise_entry? none_listed
    rw [State.present0_of_raises h]
    refine ⟨?_, ?_, ?_, fun _ => ⟨joined, ?_, ?_, fun stop => ?_⟩, fun stands => absurd h stands⟩
    · simp [State.raise_status, State.markPresent]
    · simp [State.raise_status, State.markPresent]
    · simp [State.raise_status, State.markPresent]
    · simp [State.raise_status, State.markPresent]
    · simp only [State.raise_status]; rfl
    · have stop' : ((s.markPresent i).definition i).severity = .stop := stop
      rw [State.raise_mode]
      simp only [stop', true_and]
      split
      · exact nofun
      · assumption
  · rw [State.present0_of_stands h]
    refine ⟨?_, ?_, ?_, fun raises => absurd raises h, fun _ => ⟨rfl, ?_, ?_⟩⟩
    all_goals simp [State.markPresent]

/-! ### An absent evaluation (R148 to R150, R153) -/

/-- The state that an absent evaluation of an ID that is not forced has reached before the ID's entry is looked at
(R148). -/
def State.markAbsent (s : State) (i : AlarmId) : State :=
  s.setStatus i { s.status i with condition := false, count := 0, rearm := bump (s.status i).rearm }

theorem State.entry?_id {s : State} {i : AlarmId} {e : Entry} (h : s.entry? i = some e) : e.id = i := by
  simpa using List.find?_some h

theorem State.absent0_of_forced {s : State} {i : AlarmId} (h : (s.status i).forced = true) :
    s.absent0 i = s.present0 i := by
  simp [State.absent0, h]

/-- What an absent evaluation of an ID that is not forced does (R148, R150, R153). -/
theorem State.absent0_of_free {s : State} {i : AlarmId} (h : (s.status i).forced = false) :
    (s.entry? i = none ∧ s.absent0 i = (s.markAbsent i).rearmTest i)
    ∨ (∃ e, s.entry? i = some e ∧ (e.latched = false ∨ e.acked = true) ∧
        s.absent0 i = ((s.markAbsent i).removeEntry e).rearmTest i)
    ∨ ∃ e, s.entry? i = some e ∧ e.latched = true ∧ e.acked = false ∧
        s.absent0 i = ((s.markAbsent i).setStatus i { (s.markAbsent i).status i with
          report := (s.status i).report || (s.status i).condition }).rearmTest i := by
  cases he : s.entry? i with
  | none => exact .inl ⟨rfl, by simp [State.absent0, h, he, State.markAbsent]⟩
  | some e =>
    refine .inr ?_
    cases hl : e.latched <;> cases ha : e.acked
    all_goals simp [State.absent0, h, he, hl, ha, State.markAbsent]

theorem State.absent0_others (s : State) (i : AlarmId) : OthersKept i s (s.absent0 i) := by
  have marked : OthersKept i s (s.markAbsent i) := .setStatus s i _
  cases hf : (s.status i).forced with
  | true =>
    rw [State.absent0_of_forced hf]
    exact State.present0_others s i
  | false =>
    obtain ⟨-, h⟩ | ⟨e, he, -, h⟩ | ⟨e, -, -, -, h⟩ := State.absent0_of_free hf
    · rw [h]
      exact marked.trans (.rearmTest _ i)
    · obtain rfl := State.entry?_id he
      rw [h]
      exact (marked.trans (.removeEntry _ e)).trans (.rearmTest _ _)
    · rw [h]
      exact (marked.trans (.setStatus _ i _)).trans (.rearmTest _ i)

theorem State.absent0_report {s : State} {i : AlarmId} (h : (s.status i).report = true) :
    ((s.absent0 i).status i).report = true := by
  cases hf : (s.status i).forced with
  | true =>
    rw [State.absent0_of_forced hf]
    exact State.present0_report h
  | false =>
    obtain ⟨-, e0⟩ | ⟨e, he, -, e0⟩ | ⟨e, -, -, -, e0⟩ := State.absent0_of_free hf
    · simp [e0, State.markAbsent, h]
    · obtain rfl := State.entry?_id he
      rw [e0, State.rearmTest_status, State.removeEntry_status]
      split <;> rfl
    · simp [e0, h]

theorem State.rearmTest_cause (s : State) (i : AlarmId) :
    (s.rearmTest i).alarm.resetCause = s.alarm.resetCause := by
  simp only [State.rearmTest]
  split <;> rfl

theorem State.removeEntry_cause (s : State) (e : Entry) :
    (s.removeEntry e).alarm.resetCause = s.alarm.resetCause := by
  simp only [State.removeEntry]
  split <;> simp [State.rearmTest_cause]

theorem State.absent0_cause (s : State) (i : AlarmId) :
    (s.absent0 i).alarm.resetCause = s.alarm.resetCause := by
  cases hf : (s.status i).forced with
  | true =>
    rw [State.absent0_of_forced hf]
    exact State.present0_cause s i
  | false =>
    obtain ⟨-, e0⟩ | ⟨e, -, -, e0⟩ | ⟨e, -, -, -, e0⟩ := State.absent0_of_free hf
    · rw [e0, State.rearmTest_cause]; rfl
    · rw [e0, State.rearmTest_cause, State.removeEntry_cause]; rfl
    · rw [e0, State.rearmTest_cause]; rfl

/-- An absent evaluation is taken as R148 to R150 and R153 say. -/
theorem State.absent0_taken (s : State) (i : AlarmId) : TakenAbsent s (s.absent0 i) i := by
  refine ⟨fun forced => ?_, fun free => ?_⟩
  · rw [State.absent0_of_forced forced]
    exact State.present0_taken s i
  · have marked_def : (s.markAbsent i).definition i = s.definition i := rfl
    have marked_entry : (s.markAbsent i).entry? i = s.entry? i := rfl
    have marked_status : (s.markAbsent i).status i =
        { s.status i with condition := false, count := 0, rearm := bump (s.status i).rearm } :=
      State.status_setStatus _ _ _
    obtain ⟨he, h⟩ | ⟨e, he, gone, h⟩ | ⟨e, he, hl, ha, h⟩ := State.absent0_of_free free
    · simp [h, absentOutcome, he, marked_entry, marked_def, marked_status]
    · obtain rfl := State.entry?_id he
      have removed_def : ((s.markAbsent e.id).removeEntry e).definition e.id = s.definition e.id := by
        rw [State.removeEntry_frame]; rfl
      cases hl : e.latched with
      | true =>
        have acked : e.acked = true := by simpa [hl] using gone
        simp [h, absentOutcome, he, hl, acked, State.removeEntry_status, State.removeEntry_entry?, removed_def,
          marked_status]
      | false =>
        simp [h, absentOutcome, he, hl, State.removeEntry_status, State.removeEntry_entry?, removed_def, marked_def,
          marked_status]
    · have reported_def (x : AlarmStatus) : ((s.markAbsent i).setStatus i x).definition i = s.definition i := rfl
      simp [h, absentOutcome, he, hl, ha, marked_entry, reported_def, marked_status]

end Sys2Proof.Machine
end

section
/-! PROOFS. One evaluation, the U-port arbiter and the end of an event as the statements speak of them: `Taken`,
`AlarmFrame` and `Effect` (R15, R136, R140, R143, R147 to R153, R158, R165, R168). -/

namespace Sys2Proof.Machine

/-! ### HALT entry (R136, R140) -/

theorem State.haltEntry_cases (s : State) :
    s.haltEntry = s.setWalk (s.walk.haltEntry s.now)
      ∨ s.haltEntry = (s.setWalk (s.walk.haltEntry s.now)).absent0 idBrakeSlip := by
  simp only [State.haltEntry]
  split
  · exact .inr rfl
  · exact .inl rfl

theorem State.haltEntry_others (s : State) : OthersKept idBrakeSlip s s.haltEntry := by
  obtain h | h := State.haltEntry_cases s
  · rw [h]; exact ⟨fun _ _ => rfl, fun _ _ => rfl⟩
  · obtain ⟨status, entry⟩ := State.absent0_others (s.setWalk (s.walk.haltEntry s.now)) idBrakeSlip
    rw [h]; exact ⟨status, entry⟩

theorem State.haltEntry_cause (s : State) : s.haltEntry.alarm.resetCause = s.alarm.resetCause := by
  obtain h | h := State.haltEntry_cases s
  · rw [h]; rfl
  · rw [h, State.absent0_cause]; rfl

theorem State.haltEntry_mode {s : State} (h : s.mode = .halt) : s.haltEntry.mode = .halt := by
  obtain e | e := State.haltEntry_cases s
  · rw [e]; exact h
  · obtain same | ⟨run, -⟩ := State.absent0_mode (s.setWalk (s.walk.haltEntry s.now)) idBrakeSlip
    · rw [e, same]; exact h
    · exact absurd (run.symm.trans h) nofun

/-- No pending report is lost by HALT entry (R158). -/
theorem State.haltEntry_report {s : State} {j : AlarmId} (h : (s.status j).report = true) :
    (s.haltEntry.status j).report = true := by
  by_cases hj : j = idBrakeSlip
  · subst hj
    obtain e | e := State.haltEntry_cases s
    · rw [e]; exact h
    · rw [e]
      exact State.absent0_report (s := s.setWalk (s.walk.haltEntry s.now)) h
  · rw [(State.haltEntry_others s).status j hj]; exact h

/-- An absent evaluation of an ID that stands in the list raises nothing. -/
theorem State.absent0_listed {s : State} {i : AlarmId} (h : s.entry? i ≠ none) :
    ((s.absent0 i).status i).occurred = (s.status i).occurred
      ∧ ((s.absent0 i).status i).lastRaise = (s.status i).lastRaise := by
  cases hf : (s.status i).forced with
  | true =>
    have stands : ¬raisesNow s i := fun ⟨_, _, _, unlisted, _⟩ => h unlisted
    obtain ⟨-, occurred, lastRaise⟩ := ((State.absent0_taken s i).forced hf).stands stands
    exact ⟨occurred, lastRaise⟩
  | false =>
    obtain ⟨-, -, occurred, lastRaise, -⟩ := (State.absent0_taken s i).free hf
    exact ⟨occurred, lastRaise⟩

/-- HALT entry raises no ID that stands in the list. -/
theorem State.haltEntry_listed {s : State} {i : AlarmId} (h : s.entry? i ≠ none) :
    (s.haltEntry.status i).occurred = (s.status i).occurred
      ∧ (s.haltEntry.status i).lastRaise = (s.status i).lastRaise := by
  by_cases hi : i = idBrakeSlip
  · subst hi
    obtain e | e := State.haltEntry_cases s
    · rw [e]; exact ⟨rfl, rfl⟩
    · rw [e]
      exact State.absent0_listed (s := s.setWalk (s.walk.haltEntry s.now)) h
  · rw [(State.haltEntry_others s).status i hi]; exact ⟨rfl, rfl⟩

/-! ### One evaluation, up to the mode -/

theorem State.evaluate0_others (s : State) (i : AlarmId) (b : Bool) : OthersKept i s (s.evaluate0 i b) := by
  cases b
  · exact State.absent0_others s i
  · exact State.present0_others s i

theorem State.evaluate0_report {s : State} (i : AlarmId) (b : Bool) {j : AlarmId} (h : (s.status j).report = true) :
    ((s.evaluate0 i b).status j).report = true := by
  by_cases hj : j = i
  · subst hj
    cases b
    · exact State.absent0_report h
    · exact State.present0_report h
  · rw [(State.evaluate0_others s i b).status j hj]; exact h

theorem State.evaluate0_cause (s : State) (i : AlarmId) (b : Bool) :
    (s.evaluate0 i b).alarm.resetCause = s.alarm.resetCause := by
  cases b
  · exact State.absent0_cause s i
  · exact State.present0_cause s i

theorem State.evaluate0_taken (s : State) (i : AlarmId) (b : Bool) : Taken s (s.evaluate0 i b) i b := by
  cases b
  · exact State.absent0_taken s i
  · exact State.present0_taken s i

/-- A present evaluation enters HALT only by raising a STOP entry (R168). -/
theorem State.present0_halts {s : State} {i : AlarmId} (run : s.mode = .run) (halts : (s.present0 i).mode = .halt) :
    raisesNow s i ∧ (s.definition i).severity = .stop := by
  have moved : (s.present0 i).mode ≠ s.mode := by rw [run, halts]; exact nofun
  by_cases h : raisesNow s i
  · refine ⟨h, ?_⟩
    by_contra hstop
    refine moved ?_
    rw [State.present0_of_raises h, State.raise_mode]
    exact if_neg fun c => hstop c.1
  · exact absurd (by rw [State.present0_of_stands h]; rfl) moved

/-- An evaluation enters HALT only by being taken as present and raising a STOP entry (R149, R168). -/
theorem State.evaluate0_halts {s : State} {i : AlarmId} {b : Bool} (run : s.mode = .run)
    (halts : (s.evaluate0 i b).mode = .halt) :
    raisesNow s i ∧ (s.definition i).severity = .stop ∧ s.evaluate0 i b = s.present0 i := by
  have present (h : s.evaluate0 i b = s.present0 i) := State.present0_halts run (h ▸ halts)
  cases b with
  | true => exact ⟨(present rfl).1, (present rfl).2, rfl⟩
  | false =>
    cases hf : (s.status i).forced with
    | true =>
      have h := State.absent0_of_forced hf
      exact ⟨(present h).1, (present h).2, h⟩
    | false =>
      have same : (s.absent0 i).mode = s.mode := by
        obtain ⟨-, h⟩ | ⟨e, -, -, h⟩ | ⟨e, -, -, -, h⟩ := State.absent0_of_free hf
        · rw [h, State.rearmTest_mode]; rfl
        · rw [h, State.rearmTest_mode, State.removeEntry_mode]; rfl
        · rw [h, State.rearmTest_mode]; rfl
      exact absurd (run.symm.trans (same.symm.trans halts)) nofun

/-! ### One evaluation -/

/-- An evaluation leaves the mode, or its raise of a STOP entry moves RUN to HALT and HALT entry follows
(R136, R168). -/
theorem State.evaluate_cases (s : State) (i : AlarmId) (b : Bool) :
    ((s.evaluate0 i b).mode = s.mode ∧ s.evaluate i b = s.evaluate0 i b)
    ∨ (s.mode = .run ∧ (s.evaluate0 i b).mode = .halt ∧ s.evaluate i b = (s.evaluate0 i b).haltEntry) := by
  simp only [State.evaluate]
  split
  · rename_i h; exact .inr ⟨h.1, h.2, rfl⟩
  · rename_i h; exact .inl ⟨(State.evaluate0_mode s i b).resolve_right h, rfl⟩

/-- The evaluation that enters HALT has raised a STOP entry of its ID, also where HALT entry evaluates
SWING_BRAKE_SLIP after it. -/
theorem State.evaluate_stopRaised {s : State} {i : AlarmId} {b : Bool} (run : s.mode = .run)
    (halts : (s.evaluate0 i b).mode = .halt) : StopRaised s (s.evaluate0 i b).haltEntry i := by
  obtain ⟨raises, stop, h⟩ := State.evaluate0_halts run halts
  obtain ⟨joined, occurred, lastRaise, -⟩ := (State.present0_taken s i).raised raises
  rw [← h] at joined occurred lastRaise
  obtain ⟨same_occurred, same_lastRaise⟩ :=
    State.haltEntry_listed (s := s.evaluate0 i b) (i := i) (by rw [joined]; exact nofun)
  refine ⟨raises.2.2.2.1, ⟨same_occurred.trans occurred, same_lastRaise.trans lastRaise⟩, ?_⟩
  by_cases hi : i = idBrakeSlip
  · exact .inr ⟨hi, stop⟩
  · exact .inl ⟨_, ((State.haltEntry_others _).entry i hi).trans joined, stop⟩

theorem State.evaluate_alarmFrame (s : State) (i : AlarmId) (b : Bool) : AlarmFrame [i] s (s.evaluate i b) := by
  have others := State.evaluate0_others s i b
  obtain ⟨same, h⟩ | ⟨run, halts, h⟩ := State.evaluate_cases s i b
  · have ne {j} (hj : untouchedId [i] s (s.evaluate0 i b) j) : j ≠ i :=
      fun e => hj.1 (e ▸ List.mem_singleton_self i)
    rw [h]
    exact {
      status := fun j hj => by rw [others.status j (ne hj)]
      report := fun j hj => by rw [others.status j (ne hj)]; exact id
      entry := fun j hj => others.entry j (ne hj)
      owed := fun j hj => .inl (State.evaluate0_report i b hj)
      cause := State.evaluate0_cause s i b
      mode := .inl same }
  · have moved : (s.evaluate0 i b).haltEntry.mode = .halt := State.haltEntry_mode halts
    have ne {j} (hj : untouchedId [i] s (s.evaluate0 i b).haltEntry j) : j ≠ i ∧ j ≠ idBrakeSlip :=
      ⟨fun e => hj.1 (e ▸ List.mem_singleton_self i),
        fun e => absurd (run.symm.trans ((hj.2 e).symm.trans moved)) nofun⟩
    have status {j} (hj : untouchedId [i] s (s.evaluate0 i b).haltEntry j) :
        (s.evaluate0 i b).haltEntry.status j = s.status j :=
      ((State.haltEntry_others _).status j (ne hj).2).trans (others.status j (ne hj).1)
    rw [h]
    exact {
      status := fun j hj => by rw [status hj]
      report := fun j hj => by rw [status hj]; exact id
      entry := fun j hj => ((State.haltEntry_others _).entry j (ne hj).2).trans (others.entry j (ne hj).1)
      owed := fun j hj => .inl (State.haltEntry_report (State.evaluate0_report i b hj))
      cause := (State.haltEntry_cause _).trans (State.evaluate0_cause s i b)
      mode := .inr ⟨run, moved, i, .inl (List.mem_singleton_self i), State.evaluate_stopRaised run halts⟩ }

/-- What an evaluation did to its ID stands where the ID is left alone afterwards. -/
theorem TakenPresent.of_untaken {s t u : State} {i : AlarmId} (h : TakenPresent s t i) (k : Untaken t u i)
    (hm : u.mode = t.mode) : TakenPresent s u i := by
  obtain ⟨status, entry⟩ := k
  obtain ⟨condition, count, kept, raised, stands⟩ := h
  rw [← status] at condition count kept raised stands
  rw [← entry, ← hm] at raised
  rw [← entry] at stands
  exact ⟨condition, count, kept, raised, stands⟩

theorem Taken.of_untaken {s t u : State} {i : AlarmId} {b : Bool} (h : Taken s t i b) (k : Untaken t u i)
    (hm : u.mode = t.mode) : Taken s u i b := by
  cases b with
  | true => exact TakenPresent.of_untaken h k hm
  | false =>
    obtain ⟨forced, free⟩ := (h : TakenAbsent s t i)
    refine ⟨fun hf => (forced hf).of_untaken k hm, fun hf => ?_⟩
    obtain ⟨status, entry⟩ := k
    have free := free hf
    rw [← status, ← entry] at free
    exact free

/-- One evaluation of an ID is taken as its rules say; for SWING_BRAKE_SLIP, which HALT entry may evaluate again,
`Taken` need not hold (R140). -/
theorem State.evaluate_taken (s : State) {i : AlarmId} (hi : i ≠ idBrakeSlip) (b : Bool) :
    Taken s (s.evaluate i b) i b := by
  have taken := State.evaluate0_taken s i b
  obtain ⟨-, h⟩ | ⟨-, halts, h⟩ := State.evaluate_cases s i b
  · rw [h]; exact taken
  · have others := State.haltEntry_others (s.evaluate0 i b)
    rw [h]
    exact taken.of_untaken ⟨by rw [others.status i hi], others.entry i hi⟩
      ((State.haltEntry_mode halts).trans halts.symm)

/-- An evaluation has no effect of its own beside what it does at the Alarm Unit and, in HALT entry, at the Walk
Sequencer. -/
theorem State.evaluate_effect (s : State) (i : AlarmId) (b : Bool) : Effect [i] s (s.evaluate i b) s where
  own := by rw [State.evaluate_frame]; rfl
  alarms := State.evaluate_alarmFrame s i b
  walk := State.evaluate_walk s i b
  unit := .inl (by simp)
  sent := by simp

/-! ### One event after another -/

theorem UnitFollows.trans {s t u : State} (h : UnitFollows s t) (k : UnitFollows t u) : UnitFollows s u := by
  obtain h | ⟨words, restart, waits, placed⟩ := h
  · simpa only [UnitFollows, h] using k
  · refine .inr ⟨words, restart, waits, ?_⟩
    obtain k | ⟨words', restart', waits', -⟩ := k
    · rw [k, placed]
    · rw [placed] at waits'
      split at waits' <;> cases waits'

/-- An ALM frame that has been placed keeps its place while more is placed behind it. -/
theorem Reported.trans {s t u : State} {i : AlarmId} (h : Reported s t i)
    (k : (t.status i).report = true → Reported t u i) (hp : s.links.u.txQueue <+: t.links.u.txQueue)
    (hq : t.links.u.txQueue <+: u.links.u.txQueue) : Reported s u i := by
  obtain pending | ⟨x, hx, alm⟩ := h
  · obtain still | ⟨x, hx, alm⟩ := k pending
    · exact .inl still
    · exact .inr ⟨x, (List.drop_subset_drop_left _ hp.length_le) hx, alm⟩
  · exact .inr ⟨x, (hq.drop _).subset hx, alm⟩

/-- Where nothing was evaluated and the mode stands, every ID was left alone. -/
theorem AlarmFrame.untaken {s t : State} (h : AlarmFrame [] s t) (hm : t.mode = s.mode) (i : AlarmId) :
    Untaken s t i :=
  have untouched : untouchedId [] s t i := ⟨List.not_mem_nil, fun _ => hm⟩
  ⟨h.status i untouched, h.entry i untouched⟩

theorem StopRaised.of_untaken {s t u : State} {i : AlarmId} (h : StopRaised s t i) (k : Untaken t u i) :
    StopRaised s u i := by
  obtain ⟨status, entry⟩ := k
  obtain ⟨before, raised, joined⟩ := h
  rw [← status] at raised
  rw [← entry] at joined
  exact ⟨before, raised, joined⟩

/-- Placing frames after the evaluations of an event leaves what they did (R15). -/
theorem AlarmFrame.then_quiet {ids : List AlarmId} {s t u : State} (h : AlarmFrame ids s t) (k : AlarmFrame [] t u)
    (hm : u.mode = t.mode) (hp : s.links.u.txQueue <+: t.links.u.txQueue)
    (hq : t.links.u.txQueue <+: u.links.u.txQueue) : AlarmFrame ids s u := by
  have before {i} (hi : untouchedId ids s u i) : untouchedId ids s t i := ⟨hi.1, fun e => hm ▸ hi.2 e⟩
  have quiet (i) : untouchedId [] t u i := ⟨List.not_mem_nil, fun _ => hm⟩
  refine {
    status := fun i hi => ?_
    report := fun i hi hr => h.report i (before hi) (k.report i (quiet i) hr)
    entry := fun i hi => (k.entry i (quiet i)).trans (h.entry i (before hi))
    owed := fun i hi => (h.owed i hi).trans (k.owed i) hp hq
    cause := k.cause.trans h.cause
    mode := ?_ }
  · rw [← h.status i (before hi), ← k.status i (quiet i)]
  · rw [hm]
    obtain same | ⟨run, halt, i, hi, raised⟩ := h.mode
    · exact .inl same
    · exact .inr ⟨run, halt, i, hi, raised.of_untaken (k.untaken hm i)⟩

theorem Effect.then_quiet {ids : List AlarmId} {s t t' u : State} (h : Effect ids s t u) (k : Effect [] t t' t)
    (hm : t'.mode = t.mode) : Effect ids s t' u where
  own := calc
    t'.withAlarmsOf s = (t'.withAlarmsOf t).withAlarmsOf s := rfl
    _ = t.withAlarmsOf s := by rw [k.own]
    _ = u := h.own
  alarms := h.alarms.then_quiet k.alarms hm h.sent k.sent
  walk := by
    have stays : t'.walk = t.walk := k.walk.trans (if_pos hm)
    rw [WalkFollows, stays, hm]
    exact h.walk
  unit := h.unit.trans k.unit
  sent := h.sent.trans k.sent

/-! ### The arbiter and the end of an event (R15) -/

theorem State.placeReport_effect (s : State) (i : AlarmId) : Effect [] s (s.placeReport i) s where
  own := rfl
  alarms := by
    have placed : (s.placeReport i).status i = { s.status i with report := false } :=
      State.status_setStatus _ i _
    have others : ∀ j, j ≠ i → (s.placeReport i).status j = s.status j := fun j hj =>
      State.status_setStatus_ne _ _ hj
    refine {
      status := fun j _ => ?_
      report := fun j _ hr => ?_
      entry := fun j _ => rfl
      owed := fun j hr => ?_
      cause := rfl
      mode := .inl rfl }
    · by_cases hj : j = i
      · subst hj; rw [placed]
      · rw [others j hj]
    · by_cases hj : j = i
      · subst hj; rw [placed] at hr; cases hr
      · rwa [others j hj] at hr
    · by_cases hj : j = i
      · subst hj
        refine .inr ⟨⟨composeFrame kindAlm s.stationByte (s.almWords j), .alarm⟩, ?_, rfl, ?_⟩
        · exact (List.drop_left (l₁ := s.links.u.txQueue)).symm ▸ List.mem_singleton_self _
        · simp only [composeFrame, State.almWords]
          split <;> rfl
      · exact .inl (by rw [others j hj]; exact hr)
  walk := (if_pos rfl).symm
  unit := .inl rfl
  sent := List.prefix_append _ _

/-- What leaves the Alarm Unit and the Walk Sequencer alone. -/
theorem Effect.of_alarm_eq {s t : State} (own : t.withAlarmsOf s = s) (ha : t.alarm = s.alarm) (hw : t.walk = s.walk)
    (unit : UnitFollows s t) (sent : s.links.u.txQueue <+: t.links.u.txQueue) : Effect [] s t s := by
  have hm : t.mode = s.mode := congrArg AlarmUnit.mode ha
  have hs (i : AlarmId) : t.status i = s.status i := congrArg (·.status[i]) ha
  have he (i : AlarmId) : t.entry? i = s.entry? i := congrArg (·.list.find? fun e => decide (e.id = i)) ha
  exact {
    own := own
    alarms := {
      status := fun i _ => by rw [hs i]
      report := fun i _ hr => hs i ▸ hr
      entry := fun i _ => he i
      owed := fun i hr => .inl ((hs i).symm ▸ hr)
      cause := by rw [ha]
      mode := .inl hm }
    walk := hw.trans (if_pos hm).symm
    unit := unit
    sent := sent }

theorem State.placeReply_effect {s : State} {words : List Word} {restart : Bool}
    (waits : s.mgmt.unit = .replying words restart) : Effect [] s (s.placeReply words restart) s :=
  .of_alarm_eq rfl rfl rfl (.inr ⟨words, restart, waits, rfl⟩) (List.prefix_append _ _)

theorem Effect.refl (s : State) : Effect [] s s s :=
  .of_alarm_eq rfl rfl rfl (.inl rfl) List.prefix_rfl

theorem State.grant_effect {s t : State} (h : s.grant = some t) : Effect [] s t s := by
  obtain ⟨i, -, rfl⟩ | ⟨-, words, restart, waits, rfl⟩ := State.grant_cases h
  · exact State.placeReport_effect s i
  · exact State.placeReply_effect waits

theorem State.arbitrate_effect (n : Nat) (s : State) : Effect [] s (State.arbitrate n s) s := by
  induction n generalizing s with
  | zero => exact .refl s
  | succ n ih =>
    simp only [State.arbitrate]
    split
    · rename_i t ht
      exact (State.grant_effect ht).then_quiet (ih t) (by rw [(State.arbitrate_frame n t).1]; rfl)
    · exact .refl s

/-- Driving the pins is no effect of an event. -/
theorem State.drive_effect (s : State) : Effect [] s s.drive s :=
  .of_alarm_eq rfl rfl rfl (.inl rfl) List.prefix_rfl

theorem State.settle_effect (s : State) : Effect [] s s.settle s :=
  (State.arbitrate_effect _ s).then_quiet (State.drive_effect _) rfl

theorem Effect.settle {ids : List AlarmId} {s t u : State} (h : Effect ids s t u) : Effect ids s t.settle u :=
  h.then_quiet (State.settle_effect t) (State.settle_mode t)

theorem Taken.settle {s t : State} {i : AlarmId} {b : Bool} (h : Taken s t i b) : Taken s t.settle i b :=
  h.of_untaken ((State.settle_effect t).alarms.untaken (State.settle_mode t) i) (State.settle_mode t)

/-! ### An event's own effect before its evaluations -/

/-- `v` is `s` with an event's own effect, which the evaluations do not see: what an evaluation and the arbiter can
change stands as in `s`, and so do the time base and the definitions in force. -/
structure OwnEffect (s v : State) : Prop where
  own   : v.withAlarmsOf s = v
  now   : v.now = s.now
  store : v.store = s.store

namespace OwnEffect

variable {s v : State} (h : OwnEffect s v)
include h

theorem alarm : v.alarm = s.alarm := by rw [← h.own]; rfl

theorem walk : v.walk = s.walk := by rw [← h.own]; rfl

theorem unit : v.mgmt.unit = s.mgmt.unit := by rw [← h.own]; rfl

theorem txQueue : v.links.u.txQueue = s.links.u.txQueue := by rw [← h.own]; rfl

theorem mode : v.mode = s.mode := congrArg AlarmUnit.mode h.alarm

theorem status (i : AlarmId) : v.status i = s.status i := by rw [State.status, h.alarm]; rfl

theorem entry? (i : AlarmId) : v.entry? i = s.entry? i := by rw [State.entry?, h.alarm]; rfl

theorem definition (i : AlarmId) : v.definition i = s.definition i := by
  unfold State.definition State.pageValid State.page
  rw [h.store]

theorem alarmFrame {ids : List AlarmId} {t : State} (k : AlarmFrame ids v t) : AlarmFrame ids s t := by
  obtain ⟨status, report, entry, owed, cause, mode⟩ := k
  simp only [untouchedId, Reported, h.status, h.entry?, h.mode, h.txQueue, h.alarm]
    at status report entry owed cause mode
  refine ⟨status, report, entry, owed, cause, ?_⟩
  obtain same | ⟨run, halt, i, hi, before, raised, joined⟩ := mode
  · exact .inl same
  · rw [h.entry?] at before
    rw [h.status, h.now] at raised
    rw [h.definition] at joined
    exact .inr ⟨run, halt, i, hi, before, raised, joined⟩

theorem taken {t : State} {i : AlarmId} {b : Bool} (k : Taken v t i b) : Taken s t i b := by
  have present (k : TakenPresent v t i) : TakenPresent s t i := by
    obtain ⟨condition, count, kept, raised, stands⟩ := k
    simp only [countAfter, raisesNow, entryOf, h.status, h.entry?, h.definition, h.now] at count kept raised stands
    exact ⟨condition, count, kept, raised, stands⟩
  cases b with
  | true => exact present k
  | false =>
    obtain ⟨forced, free⟩ := (k : TakenAbsent v t i)
    simp only [absentOutcome, h.status, h.entry?, h.definition] at forced free
    exact ⟨fun hf => present (forced hf), free⟩

/-- The event's own effect, then what came of it. -/
theorem effect {ids : List AlarmId} {t : State} (k : Effect ids v t v) : Effect ids s t v where
  own := calc
    t.withAlarmsOf s = (t.withAlarmsOf v).withAlarmsOf s := rfl
    _ = v.withAlarmsOf s := by rw [k.own]
    _ = v := h.own
  alarms := h.alarmFrame k.alarms
  walk := by
    have walk := k.walk
    rwa [WalkFollows, h.mode, h.walk, h.now] at walk
  unit := by
    have unit := k.unit
    rwa [UnitFollows, h.unit] at unit
  sent := by
    have sent := k.sent
    rwa [h.txQueue] at sent

end OwnEffect

end Sys2Proof.Machine
end

section
/-! PROOFS. The obligation on the watchdog. -/

namespace Sys2Proof.Machine

/-- ROUTE_U_FRAME takes the front frame while no REF waits (R10, R65). -/
theorem routeUFrame_takes {s : State} {f : Frame} {rest : List Frame} (hw : s.working = true)
    (hn : s.links.waitingRef = none) (hq : s.links.u.rxQueue = f :: rest) :
    routeUFrame s = ((s.tookU rest).routeUp f).settle := by
  simp only [routeUFrame, State.atWork, hw, hn, State.port_u, hq, if_true]
  rfl

/-- The state in which a valid REF has been taken, before LINK_UP_LOST is evaluated (R10, R19, R63). -/
def State.refTaken (s : State) (rest : List Frame) (f : Frame) : State :=
  ((s.tookU rest).setLinks { (s.tookU rest).links with
    watchdog := .running s.now, waitingRef := some f }).setGov { s.gov with cycleTimer := none }

theorem State.refTaken_own (s : State) (rest : List Frame) (f : Frame) : OwnEffect s (s.refTaken rest f) :=
  ⟨rfl, rfl, rfl⟩

/-- A valid REF at the front is taken, and LINK_UP_LOST is evaluated absent (R10, R19, R63). -/
theorem routeUFrame_ref {s : State} {f : Frame} {rest : List Frame} (hw : s.working = true)
    (hn : s.links.waitingRef = none) (hq : s.links.u.rxQueue = f :: rest) (hk : f.kind = 0x31) (h0 : f.station = 0) :
    routeUFrame s = ((s.refTaken rest f).evaluate idLinkUpLost false).settle := by
  have valid : (s.tookU rest).routeUp f = (s.tookU rest).takeRef f := by
    rw [State.routeUp, if_pos (show f.kind = kindRef from hk), if_pos h0]
  rw [routeUFrame_takes hw hn hq, valid]
  rfl

end Sys2Proof.Machine

open Sys2Proof Sys2Proof.Machine

/-- Settles O17: the REF's own effect is invisible to the evaluation of LINK_UP_LOST (`OwnEffect`); every other frame
keeps both timers (`LinkTimersKept`). -/
theorem validRefRestartsWatchdog : Obligations.ValidRefRestartsWatchdog := by
  intro f rest s hw
  refine ⟨fun hn hq hk h0 => ⟨routeUFrame s, rfl, ?_⟩, fun hq hf t ht => ?_, fun c t ht hc => ?_⟩
  · have own := s.refTaken_own rest f
    rw [routeUFrame_ref hw hn hq hk h0]
    exact ⟨own.effect (State.evaluate_effect _ idLinkUpLost false).settle,
      own.taken (State.evaluate_taken _ (by decide) false).settle⟩
  · cases ht
    have kept := LinkTimersKept.routeUFrame hq hf
    exact ⟨kept.watchdog, kept.cycleTimer⟩
  · have kept : LinkTimersKept s t := by
      obtain ⟨p, bytes, rfl⟩ | ⟨upFirst, order, rfl⟩ := hc
      · cases ht
        exact .frameComplete p bytes s
      · cases ht
        exact .routeDFrame upFirst order s
    exact ⟨kept.watchdog, kept.cycleTimer⟩

end

section
/-! PROOFS. The slew step and the stopping distance (R97, R102, R103). -/

namespace Sys2Proof.Machine

/-! ### The slew step, by its three cases (R97, R116, R130) -/

/-- A command against its baseline's sign is first brought to 0. -/
theorem slewFrom_reversal {b v : Int} (hv : v ≠ 0) (hb : b ≠ 0) (h : v.sign ≠ b.sign) (n : Nat) :
    slewFrom b v n = 0 := if_pos ⟨hv, hb, h⟩

/-- A growth keeps the command's sign and adds at most `n` to the baseline's magnitude. -/
theorem slewFrom_growth {b v : Int} (h : b = 0 ∨ v.sign = b.sign) (grows : b.natAbs < v.natAbs) (n : Nat) :
    slewFrom b v n = v.sign * (b.natAbs + min (v.natAbs - b.natAbs) n : Nat) := by
  have hb : b = v.sign * b.natAbs := by
    obtain rfl | same := h
    · simp
    · rw [same, Int.sign_mul_natAbs]
  have not_reversal : ¬(v ≠ 0 ∧ b ≠ 0 ∧ v.sign ≠ b.sign) := by tauto
  rw [slewFrom, if_neg not_reversal, if_pos grows, Nat.cast_add, mul_add, ← hb]

/-- A decrease, and a command of the baseline's magnitude, is taken at once. -/
theorem slewFrom_decrease {b v : Int} (h : v = 0 ∨ b = 0 ∨ v.sign = b.sign) (falls : v.natAbs ≤ b.natAbs) (n : Nat) :
    slewFrom b v n = v := by
  have not_reversal : ¬(v ≠ 0 ∧ b ≠ 0 ∧ v.sign ≠ b.sign) := by tauto
  rw [slewFrom, if_neg not_reversal, if_neg falls.not_gt]

/-- The slew step answers the command's sign with a magnitude not beyond the command's. -/
theorem slewFrom_toward (b v : Int) (n : Nat) : ∃ k ≤ v.natAbs, slewFrom b v n = v.sign * (k : Nat) := by
  by_cases reversal : v ≠ 0 ∧ b ≠ 0 ∧ v.sign ≠ b.sign
  · obtain ⟨hv, hb, opposed⟩ := reversal
    exact ⟨0, Nat.zero_le _, by rw [slewFrom_reversal hv hb opposed]; simp⟩
  · have follows : v = 0 ∨ b = 0 ∨ v.sign = b.sign := by tauto
    obtain falls | grows := le_or_gt v.natAbs b.natAbs
    · exact ⟨v.natAbs, le_rfl, by rw [slewFrom_decrease follows falls, Int.sign_mul_natAbs]⟩
    · have hv : v ≠ 0 := by rintro rfl; exact Nat.not_lt_zero _ grows
      exact ⟨_, by omega, slewFrom_growth (follows.resolve_left hv) grows n⟩

theorem natAbs_sign_mul {v : Int} (hv : v ≠ 0) (k : Nat) : (v.sign * k).natAbs = k := by
  rw [Int.natAbs_mul, Int.natAbs_sign_of_ne_zero hv, one_mul, Int.natAbs_natCast]

theorem sign_mul_follows (v : Int) (k : Nat) : v.sign * k = 0 ∨ (v.sign * k).sign = v.sign := by
  obtain rfl | hk := Nat.eq_zero_or_pos k
  · simp
  · right
    rw [Int.sign_mul, Int.sign_sign, Int.sign_natCast_of_ne_zero hk.ne', mul_one]

theorem slewFrom_natAbs_le (b v : Int) (n : Nat) : (slewFrom b v n).natAbs ≤ v.natAbs := by
  obtain ⟨k, hk, h⟩ := slewFrom_toward b v n
  obtain rfl | hv := eq_or_ne v 0
  · simp [h]
  · rwa [h, natAbs_sign_mul hv]

theorem slewFrom_sign (b v : Int) (n : Nat) : slewFrom b v n = 0 ∨ (slewFrom b v n).sign = v.sign := by
  obtain ⟨k, -, h⟩ := slewFrom_toward b v n
  exact h ▸ sign_mul_follows v k

/-! ### Effective deceleration and stopping distance (R102, R103) -/

theorem effectiveDeceleration_pos (nominal load tension : Nat) : 0 < effectiveDeceleration nominal load tension :=
  Nat.le_max_left ..

theorem effectiveDeceleration_eq (nominal load tension : Nat) :
    effectiveDeceleration nominal load tension
      = if nominal * 4096 / (4096 + load * tension) = 0 then 1 else nominal * 4096 / (4096 + load * tension) := by
  rw [effectiveDeceleration]
  generalize nominal * 4096 / (4096 + load * tension) = quotient
  split <;> omega

/-- The house can stop within `d` exactly where `ω² ≤ 2 × a × d` (R103). -/
theorem stoppingDistance_le_iff {a : Nat} (ha : 0 < a) (v : Int) (d : Nat) :
    stoppingDistance v a ≤ d ↔ v.natAbs * v.natAbs ≤ 2 * a * d := by
  rw [stoppingDistance, Nat.div_le_iff_le_mul_add_pred (by omega), Nat.add_le_add_iff_right, pow_two]

theorem stoppingDistance_eq_zero_iff {a : Nat} (ha : 0 < a) (v : Int) : stoppingDistance v a = 0 ↔ v = 0 := by
  rw [← Nat.le_zero, stoppingDistance_le_iff ha]
  simp

theorem State.swingTension_of_fresh {s : State} (h : s.image.hoist.state = .fresh) :
    s.swingTension = s.image.hoist.tension := if_pos (decide_eq_true h)

theorem State.swingTension_of_not_fresh {s : State} (h : s.image.hoist.state ≠ .fresh) : s.swingTension = 0 :=
  if_neg (mt of_decide_eq_true h)

end Sys2Proof.Machine

open Sys2Proof Sys2Proof.Machine

/-- Settles O43: every slew step is the command's sign times a magnitude (`slewFrom_toward`), and the stopping distance
is the least one by the division's own bound (`stoppingDistance_le_iff`). -/
theorem slewAndStoppingDistance : Obligations.SlewAndStoppingDistance := by
  constructor
  · intro b v n
    refine ⟨fun hv hb h => slewFrom_reversal hv hb h n, fun hv h grows => ⟨?_, slewFrom_sign b v n⟩,
      fun h falls => slewFrom_decrease h falls n, slewFrom_natAbs_le b v n, slewFrom_sign b v n⟩
    rw [slewFrom_growth h grows, natAbs_sign_mul hv]
  · intro s v nominal load tension d
    have ha := effectiveDeceleration_pos nominal load tension
    exact ⟨effectiveDeceleration_eq .., stoppingDistance_le_iff ha v d, stoppingDistance_eq_zero_iff ha v,
      s.swingTension_of_not_fresh, s.swingTension_of_fresh, rfl⟩

end

section
/-! PROOFS. Sectors on the circle (R106, R107): every angle is a turn of less than 36000 from a sector's start, and the
turn tells whether it is inside and how far the sector is ahead. -/

namespace Sys2Proof.Machine

theorem angleSub_lt (a b : Nat) : angleSub a b < 36000 := Nat.mod_lt _ (by decide)

/-- The angle reached from `b` by turning through `angleSub a b` is `a`. -/
theorem turn_angleSub {a : Nat} (ha : a < 36000) (b : Nat) : (b + angleSub a b) % 36000 = a := by
  rw [angleSub]
  omega

/-- The turn from `b` to the angle a turn `g` after it is `g`. -/
theorem angleSub_turn (b : Nat) {g : Nat} (hg : g < 36000) : angleSub ((b + g) % 36000) b = g := by
  rw [angleSub]
  omega

namespace Sector

variable (x : Sector) {g : Nat}

/-- The angle a turn `g` after the start is inside the sector where `g` is below the width (R106). -/
theorem inside_turn (hg : g < 36000) : x.inside ((x.start + g) % 36000) = decide (g < x.width) := by
  rw [Sector.inside, angleSub_turn x.start hg]

theorem inside_iff {angle : Nat} (ha : angle < 36000) (hw : x.width ≤ 35999) :
    x.inside angle = true ↔ ∃ k < x.width, angle = (x.start + k) % 36000 := by
  constructor
  · intro inside
    exact ⟨angleSub angle x.start, of_decide_eq_true inside, (turn_angleSub ha x.start).symm⟩
  · rintro ⟨k, hk, rfl⟩
    rw [x.inside_turn (by omega), decide_eq_true hk]

theorem inside_last (hw : 1 ≤ x.width) (hw' : x.width ≤ 35999) : x.inside x.last = true := by
  rw [Sector.last, Nat.add_sub_assoc hw, x.inside_turn (by omega), decide_eq_true (by omega)]

theorem not_inside_after_last (hw : x.width ≤ 35999) : x.inside ((x.start + x.width) % 36000) = false := by
  rw [x.inside_turn (by omega), decide_eq_false (lt_irrefl _)]

/-- An angle outside the sector is a turn of at least the width after its start. -/
theorem exists_turn_of_not_inside {angle : Nat} (ha : angle < 36000) (h : x.inside angle = false) :
    ∃ g, x.width ≤ g ∧ g < 36000 ∧ angle = (x.start + g) % 36000 :=
  ⟨angleSub angle x.start, not_lt.mp (of_decide_eq_false h), angleSub_lt .., (turn_angleSub ha x.start).symm⟩

/-- Turning up, the start is ahead by what is left of the circle (R107). -/
theorem ahead_up_turn (hg : 0 < g) (hg' : g < 36000) : x.ahead ((x.start + g) % 36000) true = 36000 - g := by
  rw [Sector.ahead, if_pos rfl, angleSub]
  omega

/-- Turning down, the sector's last angle is ahead by the turn beyond it (R107). -/
theorem ahead_down_turn (hw : 1 ≤ x.width) (hg : x.width ≤ g) (hg' : g < 36000) :
    x.ahead ((x.start + g) % 36000) false = g + 1 - x.width := by
  rw [Sector.ahead, if_neg Bool.false_ne_true, angleSub, Sector.last]
  omega

end Sector

end Sys2Proof.Machine

open Sys2Proof Sys2Proof.Machine

/-- Settles O45: with the house at a turn `g` from the sector's start, `width ≤ g`, turning by `k` moves it to the turn
`g + k` or `g - k`, and `Sector.inside_turn` decides each. -/
theorem sectorGeometry : Obligations.SectorGeometry := by
  intro x angle ha hs hw hw'
  refine ⟨x.inside_iff ha hw', rfl, x.inside_last hw hw', x.not_inside_after_last hw', fun outside => ?_⟩
  obtain ⟨g, hg, hg', rfl⟩ := x.exists_turn_of_not_inside ha outside
  rw [x.ahead_up_turn (by omega) hg', x.ahead_down_turn hw hg hg']
  refine ⟨by omega, by omega, by omega, fun k hk => ?_, by omega, by omega, ?_, fun k hk => ?_⟩
  · have up : ((x.start + g) % 36000 + k) % 36000 = (x.start + (g + k)) % 36000 := by omega
    rw [up, x.inside_turn (by omega), decide_eq_false (by omega)]
  · rw [Sector.last]
    omega
  · have down : ((x.start + g) % 36000 + 36000 - k) % 36000 = (x.start + (g - k)) % 36000 := by omega
    rw [down, x.inside_turn (by omega), decide_eq_false (by omega)]

end

section
/-! PROOFS. The service of a request: which state answers it, when its reply is placed, and what the placing leaves of
the request's own effect at the Alarm Unit (R15, R180 to R182). -/

namespace Sys2Proof.Machine

/-- A request with arguments the catalogue allows is taken into service and decided by its owner (R180, R181). -/
theorem State.serve_allowed {s : State} {code : Nat} {args : List Word} {allowed : Nat → Bool}
    {owner : List Word → State → State × MgmtUnit} (h : Serving s code args) (hc : code < 65536)
    (ha : allowed args.length = true) :
    s.serve code allowed owner
      = ((owner args s.tookRequest).1.busyWith (owner args s.tookRequest).2).settle := by
  obtain ⟨working, free, f, rest, queue, words⟩ := h
  have head : s.headRequest = some f := by simp [State.headRequest, free, queue]
  have asks : requestCode f = some code := by
    simp [requestCode, words, wordOfNat, BitVec.toNat_ofNat, Nat.mod_eq_of_lt hc]
  have its_args : f.words.tail = args := by rw [words, List.tail_cons]
  simp only [State.serve, State.atWork, working, head, asks, its_args, ha, if_true]
  rfl

/-! ### The reply (R15, R180, R182) -/

theorem State.arbitrate_of_grant_none {s : State} (h : s.grant = none) (n : Nat) : State.arbitrate n s = s := by
  cases n with
  | zero => rfl
  | succ n => rw [State.arbitrate, h]

/-- Once the reply is placed nothing of the part's own waits: the reports went before it. -/
theorem State.placeReply_grant {s : State} (h : s.firstReport = none) (words : List Word) :
    (s.placeReply words false).grant = none := by
  have none_left : (s.placeReply words false).firstReport = none := h
  rw [State.grant, none_left]
  rfl

/-- Over `n` free slots the reply still waits behind `n` reports, or it stands at the tail and the unit is FREE. -/
theorem State.arbitrate_reply (n : Nat) {s : State} {words : List Word} (waits : s.mgmt.unit = .replying words false) :
    ((State.arbitrate n s).mgmt.unit = .replying words false
        ∧ (State.arbitrate n s).links.u.txQueue.length = s.links.u.txQueue.length + n)
      ∨ ((State.arbitrate n s).mgmt.unit = .free
        ∧ (State.arbitrate n s).links.u.txQueue.getLast? = some ⟨composeFrame kindMrep s.stationByte words, .reply⟩) := by
  induction n generalizing s with
  | zero => exact .inl ⟨waits, rfl⟩
  | succ n ih =>
    cases granted : s.grant with
    | none => exact absurd waits ((State.grant_none granted).2 words false)
    | some t =>
      have next : State.arbitrate (n + 1) s = State.arbitrate n t := by rw [State.arbitrate, granted]
      rw [next]
      obtain ⟨i, -, rfl⟩ | ⟨no_report, words', restart, waits', rfl⟩ := State.grant_cases granted
      · obtain ⟨still, full⟩ | placed := ih (s := s.placeReport i) waits
        · have longer := (State.grant_frame granted).2.1
          exact .inl ⟨still, by omega⟩
        · exact .inr placed
      · cases waits.symm.trans waits'
        rw [State.arbitrate_of_grant_none (State.placeReply_grant no_report words)]
        exact .inr ⟨rfl, List.getLast?_concat⟩

theorem State.settle_replied {s : State} {words : List Word} (waits : s.mgmt.unit = .replying words false) :
    Replied s s.settle words := by
  have capacity : Config.txCapacityU = 8 := rfl
  have slots : (s.port .u).txQueue.length = s.links.u.txQueue.length := rfl
  obtain ⟨still, full⟩ | placed :=
    State.arbitrate_reply (Config.txCapacityU - (s.port .u).txQueue.length) waits
  · exact .inl ⟨still, (show 8 ≤ (State.arbitrate _ s).links.u.txQueue.length by omega)⟩
  · exact .inr placed

/-! ### A request that changes the Alarm Unit at most -/

/-- `t` is `v` with the reply to the request that `s` has at the head fixed, where `v` is the request's own effect at
the Alarm Unit, on the IDs `ids`. -/
structure Answered (ids : List AlarmId) (words : List Word) (s v t : State) : Prop where
  replied : Replied s t words
  own     : t.withAlarmsOf s = s.tookRequest
  alarms  : AlarmFrame ids s t
  mode    : t.mode = s.mode
  walk    : t.walk = s.walk
  list    : t.alarm.list = v.alarm.list
  sent    : s.links.u.txQueue <+: t.links.u.txQueue
  quiet   : ∀ i, Untaken v t i
  owed    : ∀ i, (v.status i).report = true → Reported s t i

/-- Taking the request into service is no effect that an evaluation sees. -/
theorem State.tookRequest_own (s : State) : OwnEffect s s.tookRequest := ⟨rfl, rfl, rfl⟩

@[simp] theorem State.busyWith_walk (s : State) (u : MgmtUnit) : (s.busyWith u).walk = s.walk := rfl

theorem AlarmFrame.busyWith (s : State) (u : MgmtUnit) : AlarmFrame [] s (s.busyWith u) :=
  ⟨fun _ _ => rfl, fun _ _ => id, fun _ _ => rfl, fun _ => .inl, rfl, .inl rfl⟩

/-- Fixing the reply after a change of the Alarm Unit that leaves the mode (R180). -/
theorem State.answered {ids : List AlarmId} {s v : State} (words : List Word)
    (only : v = s.tookRequest.setAlarm v.alarm) (frame : AlarmFrame ids s.tookRequest v) (same : v.mode = s.mode) :
    Answered ids words s v (v.busyWith (.replying words false)).settle := by
  have placed := State.settle_effect (v.busyWith (.replying words false))
  have kept := State.settle_mode (v.busyWith (.replying words false))
  have links : v.links = s.links := by rw [only]; rfl
  have station : v.stationByte = s.stationByte := by rw [only]; rfl
  have sent : s.links.u.txQueue <+: v.links.u.txQueue := by rw [links]
  have frame_busy := (s.tookRequest_own.alarmFrame frame).then_quiet (.busyWith v (.replying words false)) rfl sent
    List.prefix_rfl
  exact {
    replied := by
      rw [Replied, ← station]
      exact State.settle_replied rfl
    own := calc
      (v.busyWith (.replying words false)).settle.withAlarmsOf s
        = ((v.busyWith (.replying words false)).settle.withAlarmsOf
            (v.busyWith (.replying words false))).withAlarmsOf s := rfl
      _ = v.withAlarmsOf s := by rw [placed.own]; rfl
      _ = s.tookRequest := by rw [only]; rfl
    alarms := frame_busy.then_quiet placed.alarms kept sent placed.sent
    mode := kept.trans same
    walk := by
      rw [State.settle_walk, State.busyWith_walk, only]
      rfl
    list := State.settle_list _
    sent := sent.trans placed.sent
    quiet := placed.alarms.untaken kept
    owed := fun i pending => by
      rw [Reported, ← links]
      exact placed.alarms.owed i pending }

end Sys2Proof.Machine
end

section
/-! PROOFS. FORCE (R147, R159, R160): what setting and clearing a forced flag does to the ID, and which outcome the
request has. -/

namespace Sys2Proof.Machine

/-- What changes one ID only, keeps its report pending and leaves the mode is no more than `AlarmFrame` allows. -/
theorem OthersKept.alarmFrame {i : AlarmId} {s t : State} (others : OthersKept i s t)
    (report : (s.status i).report = true → (t.status i).report = true)
    (cause : t.alarm.resetCause = s.alarm.resetCause) (mode : t.mode = s.mode) : AlarmFrame [i] s t := by
  have ne {j} (hj : untouchedId [i] s t j) : j ≠ i := fun e => hj.1 (e ▸ List.mem_singleton_self i)
  refine {
    status := fun j hj => by rw [others.status j (ne hj)]
    report := fun j hj => by rw [others.status j (ne hj)]; exact id
    entry := fun j hj => others.entry j (ne hj)
    owed := fun j hj => .inl ?_
    cause := cause
    mode := .inl mode }
  by_cases h : j = i
  · subst h; exact report hj
  · rw [others.status j h]; exact hj

theorem AlarmFrame.refl (s : State) : AlarmFrame [] s s := (Effect.refl s).alarms

/-! ### The flag set (R147, R160) -/

theorem State.evaluate_of_not_run {s : State} (h : s.mode ≠ .run) (i : AlarmId) (b : Bool) :
    s.evaluate i b = s.evaluate0 i b ∧ (s.evaluate i b).mode = s.mode := by
  obtain ⟨same, e⟩ | ⟨run, -⟩ := State.evaluate_cases s i b
  · exact ⟨e, e ▸ same⟩
  · exact absurd run h

theorem State.present0_forced (s : State) (i : AlarmId) :
    ((s.present0 i).status i).forced = (s.status i).forced := by
  by_cases h : raisesNow s i
  · rw [State.present0_of_raises h, State.raise_status]
    simp [State.markPresent]
  · rw [State.present0_of_stands h]
    simp [State.markPresent]

/-- The state in which FORCE has set the flag, before the present evaluation (R160). -/
def State.markForced (s : State) (i : AlarmId) : State :=
  s.setStatus i { s.status i with forced := true, report := (s.status i).report || !(s.status i).forced }

@[simp] theorem State.markForced_status (s : State) (i : AlarmId) :
    (s.markForced i).status i =
      { s.status i with forced := true, report := (s.status i).report || !(s.status i).forced } :=
  State.status_setStatus _ _ _

/-- A present evaluation does not see whether the flag was set just before it. -/
theorem TakenPresent.of_markForced {s t : State} {i : AlarmId} (h : TakenPresent (s.markForced i) t i) :
    TakenPresent s t i := by
  have entry : (s.markForced i).entry? i = s.entry? i := rfl
  have definition : (s.markForced i).definition i = s.definition i := rfl
  have now : (s.markForced i).now = s.now := rfl
  obtain ⟨condition, count, kept, raised, stands⟩ := h
  simp only [countAfter, raisesNow, entryOf, State.markForced_status, entry, definition, now]
    at count kept raised stands
  exact ⟨condition, count, kept, raised, stands⟩

/-- What FORCE on does outside RUN (R160): one present evaluation with the flag set, a report owed if it was clear. -/
structure ForcedOn (s t : State) (i : AlarmId) : Prop where
  only    : t = s.setAlarm t.alarm
  alarms  : AlarmFrame [i] s t
  mode    : t.mode = s.mode
  forced  : (t.status i).forced = true
  present : TakenPresent s t i
  owed    : (s.status i).forced = false → (t.status i).report = true

theorem State.forceOn_forced {s : State} (h : s.mode ≠ .run) (i : AlarmId) : ForcedOn s (s.forceOn i) i := by
  obtain ⟨evaluated, mode⟩ := State.evaluate_of_not_run (s := s.markForced i) h i true
  have eq : s.forceOn i = (s.markForced i).present0 i := evaluated
  have same : ((s.markForced i).present0 i).mode = s.mode := eq ▸ mode
  have others : OthersKept i s ((s.markForced i).present0 i) :=
    (OthersKept.setStatus s i _).trans (State.present0_others _ i)
  rw [eq]
  exact {
    only := by rw [State.present0_frame]; rfl
    alarms := others.alarmFrame (fun pending => State.present0_report (by simp [pending]))
      (State.present0_cause _ i) same
    mode := same
    forced := by simp [State.present0_forced]
    present := (State.present0_taken _ i).of_markForced
    owed := fun clear => State.present0_report (by simp [clear]) }

/-! ### The flag cleared (R160) -/

theorem State.forceOff_status (s : State) (i : AlarmId) :
    (s.forceOff i).status i =
      { s.status i with forced := false, report := (s.status i).report || (s.status i).forced } :=
  State.status_setStatus _ _ _

theorem State.forceOff_alarmFrame (s : State) (i : AlarmId) : AlarmFrame [i] s (s.forceOff i) := by
  have others : OthersKept i s (s.forceOff i) := .setStatus s i _
  exact others.alarmFrame (fun pending => by rw [State.forceOff_status, pending, Bool.true_or]) rfl rfl

/-! ### The outcome of the request (R159) -/

theorem exec_force {s : State} {idWord setting : Word} (h : Serving s 13 [idWord, setting]) :
    exec .force s = .next ((ownForce [idWord, setting] s.tookRequest).1.busyWith
      (ownForce [idWord, setting] s.tookRequest).2).settle :=
  congrArg _ (State.serve_allowed h (by decide) rfl)

theorem alarmIdOf_val {i : AlarmId} {n : Nat} (h : i.val = n) : alarmIdOf n = some i := by
  subst h
  exact dif_pos i.isLt

theorem alarmIdOf_eq_none {n : Nat} (h : 24 ≤ n) : alarmIdOf n = none := dif_neg h.not_gt

theorem fixedId_iff (i : AlarmId) : fixedId i = true ↔ i.val < 2 := decide_eq_true_iff

variable {s : State} {idWord setting : Word}

theorem ownForce_badArgument (h : 24 ≤ idWord.toNat ∨ idWord.toNat < 2 ∨ 2 ≤ setting.toNat) :
    ownForce [idWord, setting] s = (s, .replying [13, 2] false) := by
  by_cases big : 24 ≤ idWord.toNat
  · simp only [ownForce, List.getD_cons_zero, alarmIdOf_eq_none big]
    rfl
  · have names : alarmIdOf idWord.toNat = some ⟨idWord.toNat, not_le.mp big⟩ := alarmIdOf_val rfl
    have refused : fixedId ⟨idWord.toNat, not_le.mp big⟩ ∨ 1 < setting.toNat :=
      (h.resolve_left big).imp_left (fixedId_iff _).mpr
    simp only [ownForce, List.getD_cons_zero, List.getD_cons_succ, names, if_pos refused]
    rfl

variable {i : AlarmId} (names : i.val = idWord.toNat) (free : 2 ≤ i.val)
include names free

/-- FORCE of an ID that is not fixed, with a setting of 0 or 1, turns on the mode. -/
theorem ownForce_admitted (hs : setting.toNat < 2) :
    ownForce [idWord, setting] s = if s.mode = .run then (s, .replying [13, 3] false)
      else (if setting.toNat = 1 then s.forceOn i else s.forceOff i, .replying [13, 0] false) := by
  have admitted : ¬(fixedId i ∨ 1 < setting.toNat) := by
    rw [fixedId_iff]
    omega
  simp only [ownForce, List.getD_cons_zero, List.getD_cons_succ, alarmIdOf_val names, if_neg admitted]
  rfl

theorem ownForce_run (hs : setting.toNat < 2) (run : s.mode = .run) :
    ownForce [idWord, setting] s = (s, .replying [13, 3] false) := by
  rw [ownForce_admitted names free hs, if_pos run]

theorem ownForce_on (halted : s.mode ≠ .run) :
    ownForce [idWord, 1] s = (s.forceOn i, .replying [13, 0] false) := by
  rw [ownForce_admitted names free (by decide), if_neg halted, if_pos (by decide)]

theorem ownForce_off (halted : s.mode ≠ .run) :
    ownForce [idWord, 0] s = (s.forceOff i, .replying [13, 0] false) := by
  rw [ownForce_admitted names free (by decide), if_neg halted, if_neg (by decide)]

end Sys2Proof.Machine

open Sys2Proof Sys2Proof.Machine

/-- A FORCE whose owner leaves the state alone only answers. -/
theorem force_answersOnly {s : State} {idWord setting : Word} {words : List Word}
    (h : Serving s 13 [idWord, setting])
    (refused : ownForce [idWord, setting] s.tookRequest = (s.tookRequest, .replying words false)) :
    AnswersOnly .force s words := by
  have a : Answered [] words s s.tookRequest (s.tookRequest.busyWith (.replying words false)).settle :=
    State.answered words rfl (AlarmFrame.refl _) rfl
  refine ⟨_, exec_force h, ?_⟩
  rw [refused]
  exact ⟨a.replied, a.own, a.alarms, a.mode, a.walk, a.list, a.sent⟩

/-- Settles O58, by the outcomes of `ownForce`: fixing the reply (`State.answered`) leaves what `State.forceOn_forced`
and `State.forceOff_status` say of the ID. -/
theorem forceSetsFlag : Obligations.ForceSetsFlag := by
  intro idWord setting s serving
  refine ⟨fun bad => force_answersOnly serving (ownForce_badArgument bad),
    fun lo hi hs run => force_answersOnly serving (ownForce_run (i := ⟨idWord.toNat, hi⟩) rfl lo hs run),
    fun i names free halted => ⟨?_, ?_⟩⟩
  · rintro rfl
    have on := State.forceOn_forced (s := s.tookRequest) halted i
    have a := State.answered (s := s) [13, 0] on.only on.alarms on.mode
    refine ⟨_, exec_force serving, ?_⟩
    rw [ownForce_on names free (s := s.tookRequest) halted]
    obtain ⟨kept, -⟩ := a.quiet i
    have taken : TakenPresent s.tookRequest _ i := on.present.of_untaken (a.quiet i) (a.mode.trans on.mode.symm)
    exact ⟨a.replied, a.own, a.alarms, a.mode, a.walk, (congrArg AlarmStatus.forced kept).trans on.forced,
      s.tookRequest_own.taken (b := true) taken, fun clear => a.owed i (on.owed clear)⟩
  · rintro rfl
    have off : (s.tookRequest.forceOff i).status i = _ := s.tookRequest.forceOff_status i
    have a := State.answered (s := s) [13, 0] rfl (s.tookRequest.forceOff_alarmFrame i) rfl
    refine ⟨_, exec_force serving, ?_⟩
    rw [ownForce_off names free (s := s.tookRequest) halted]
    obtain ⟨kept, -⟩ := a.quiet i
    rw [off] at kept
    refine ⟨a.replied, a.own, a.alarms, a.mode, a.walk, a.list, ?_, congrArg AlarmStatus.forced kept,
      fun set => a.owed i ?_⟩
    · exact congrArg (fun x : AlarmStatus =>
        { x with forced := (s.status i).forced, report := (s.status i).report }) kept
    · rw [off]
      exact Bool.or_eq_true_iff.mpr (.inr set)

end

section
/-! PROOFS. GO and RESUME: the tests in their order, and the entry into RUN, which clears the forced flags without an
evaluation (R161, R166, R169). -/

namespace Sys2Proof.Machine

/-! ### The tests of both requests -/

theorem State.pagesReady_iff (s : State) :
    s.pagesReady = true ↔ s.pageValid .config = true ∧ s.pageValid .alarm = true ∧ s.pageValid .walk = true
      ∧ s.pageValid s.activePage = true := by
  simp [State.pagesReady, State.covered]

theorem State.hasStop_iff (s : State) : s.hasStop = true ↔ ∃ e ∈ s.alarm.list, e.severity = .stop := by
  simp [State.hasStop]

/-! ### The entry into RUN -/

/-- Every forced flag is cleared, and a report is owed for each that was set (R161). -/
theorem State.enterRun_status (s : State) (i : AlarmId) :
    s.enterRun.status i =
      { s.status i with forced := false, report := (s.status i).report || (s.status i).forced } :=
  Vector.getElem_map ..

/-- What an accepted GO and an accepted RESUME have in common: RUN, with the list and the Walk Sequencer as they were,
no forced flag set, and a report owed for each flag cleared (R161, R166, R169). -/
structure EntersRun (s t : State) : Prop where
  mode    : t.mode = .run
  list    : t.alarm.list = s.alarm.list
  walk    : t.walk = s.walk
  kept    : ∀ i, { t.status i with forced := (s.status i).forced, report := (s.status i).report } = s.status i
  cleared : ∀ i, (t.status i).forced = false
  owed    : ∀ i, (s.status i).forced = true → Reported s t i

/-- The state in which RUN has been entered, the Table Store is `x` and the reply stands fixed. -/
def State.runAnswered (s : State) (x : Store) (words : List Word) : State :=
  (s.tookRequest.enterRun.setStore x).busyWith (.replying words false)

theorem State.runAnswered_status (s : State) (x : Store) (words : List Word) (i : AlarmId) :
    (s.runAnswered x words).status i =
      { s.status i with forced := false, report := (s.status i).report || (s.status i).forced } :=
  s.tookRequest.enterRun_status i

theorem State.runAnswered_entersRun (s : State) (x : Store) (words : List Word) :
    EntersRun s (s.runAnswered x words).settle := by
  have quiet := (State.settle_effect (s.runAnswered x words)).alarms
  have status (i : AlarmId) := (quiet.untaken (State.settle_mode _) i).1
  simp only [State.runAnswered_status] at status
  exact {
    mode := State.settle_mode _
    list := State.settle_list _
    walk := State.settle_walk _
    kept := fun i => congrArg (fun r : AlarmStatus =>
      { r with forced := (s.status i).forced, report := (s.status i).report }) (status i)
    cleared := fun i => congrArg AlarmStatus.forced (status i)
    owed := fun i set => quiet.owed i (by rw [State.runAnswered_status, set, Bool.or_true]) }

theorem State.runAnswered_replied (s : State) (x : Store) (words : List Word) :
    Replied s (s.runAnswered x words).settle words :=
  State.settle_replied (s := s.runAnswered x words) rfl

theorem State.runAnswered_own (s : State) (x : Store) (words : List Word) :
    (s.runAnswered x words).settle.withAlarmsOf s = s.tookRequest.setStore x := by
  have own := (State.settle_effect (s.runAnswered x words)).own
  calc
    (s.runAnswered x words).settle.withAlarmsOf s
      = ((s.runAnswered x words).settle.withAlarmsOf (s.runAnswered x words)).withAlarmsOf s := rfl
    _ = (s.runAnswered x words).withAlarmsOf s := by rw [own]
    _ = s.tookRequest.setStore x := rfl

/-! ### The outcomes of GO, in the order of its tests (R166) -/

section Go

variable {s : State} (args : List Word)

theorem ownGo_wrongMode (h : s.mode ≠ .loading) : ownGo args s = (s, .replying [6, 3] false) := by
  rw [ownGo, if_pos h]
  rfl

variable (loading : s.mode = .loading)
include loading

theorem ownGo_notValid (h : ¬s.pagesReady = true) : ownGo args s = (s, .replying [6, 5] false) := by
  rw [ownGo, if_neg (not_not.mpr loading), if_pos (by simpa using h)]
  rfl

variable (ready : s.pagesReady = true)
include ready

theorem ownGo_blocked (h : s.hasStop = true) : ownGo args s = (s, .replying [6, 6] false) := by
  rw [ownGo, if_neg (not_not.mpr loading), if_neg (by simpa using ready), if_pos h]
  rfl

theorem ownGo_accepted (h : ¬s.hasStop = true) :
    ownGo args s = (s.enterRun.setStore { s.store with scan := some passStart, scanDue := false },
      .replying [6, 0] false) := by
  rw [ownGo, if_neg (not_not.mpr loading), if_neg (by simpa using ready), if_neg h]
  rfl

end Go

/-! ### The outcomes of RESUME, in the order of its tests (R169) -/

section Resume

variable {s : State} (args : List Word)

theorem ownResume_wrongMode (h : s.mode ≠ .halt) : ownResume args s = (s, .replying [8, 3] false) := by
  rw [ownResume, if_pos h]
  rfl

variable (halted : s.mode = .halt)
include halted

theorem ownResume_stop (h : s.hasStop = true) : ownResume args s = (s, .replying [8, 6] false) := by
  rw [ownResume, if_neg (not_not.mpr halted), if_pos h]
  rfl

variable (free : ¬s.hasStop = true)
include free

theorem ownResume_linkLost (h : (s.status idLinkUpLost).condition = true) :
    ownResume args s = (s, .replying [8, 6] false) := by
  rw [ownResume, if_neg (not_not.mpr halted), if_neg free, if_pos h]
  rfl

variable (linked : (s.status idLinkUpLost).condition = false)
include linked

theorem ownResume_notValid (h : ¬s.pagesReady = true) : ownResume args s = (s, .replying [8, 5] false) := by
  rw [ownResume, if_neg (not_not.mpr halted), if_neg free, if_neg (ne_true_of_eq_false linked),
    if_pos (by simpa using h)]
  rfl

theorem ownResume_accepted (h : s.pagesReady = true) :
    ownResume args s = (s.enterRun, .replying [8, 0] false) := by
  rw [ownResume, if_neg (not_not.mpr halted), if_neg free, if_neg (ne_true_of_eq_false linked),
    if_neg (by simpa using h)]
  rfl

end Resume

/-! ### The two commands -/

/-- A request whose owner leaves the state alone only answers (R181). -/
theorem answersOnly_of_exec {c : Instr} {s : State} {words : List Word}
    (h : exec c s = .next (s.tookRequest.busyWith (.replying words false)).settle) : AnswersOnly c s words := by
  have a : Answered [] words s s.tookRequest (s.tookRequest.busyWith (.replying words false)).settle :=
    State.answered words rfl (AlarmFrame.refl _) rfl
  exact ⟨_, h, a.replied, a.own, a.alarms, a.mode, a.walk, a.list, a.sent⟩

/-- The service of a request whose owner answers with `v` and `u`. -/
theorem State.serve_owner {s v : State} {u : MgmtUnit} {code : Nat} {args : List Word} {allowed : Nat → Bool}
    {owner : List Word → State → State × MgmtUnit} (h : Serving s code args) (hc : code < 65536)
    (ha : allowed args.length = true) (outcome : owner args s.tookRequest = (v, u)) :
    s.serve code allowed owner = (v.busyWith u).settle := by
  rw [State.serve_allowed h hc ha, outcome]

theorem exec_go {s v : State} {u : MgmtUnit} (h : Serving s 6 []) (outcome : ownGo [] s.tookRequest = (v, u)) :
    exec .go s = .next (v.busyWith u).settle :=
  congrArg _ (State.serve_owner h (by decide) rfl outcome)

theorem exec_resume {s v : State} {u : MgmtUnit} (h : Serving s 8 [])
    (outcome : ownResume [] s.tookRequest = (v, u)) : exec .resume s = .next (v.busyWith u).settle :=
  congrArg _ (State.serve_owner h (by decide) rfl outcome)

end Sys2Proof.Machine

open Sys2Proof Sys2Proof.Machine

/-- Settles O55, by the outcomes of `ownGo` and `ownResume` in the order of their tests; both accepted requests pass
through `State.runAnswered`, the Table Store differing. -/
theorem goAndResumeEnterRun : Obligations.GoAndResumeEnterRun := by
  intro s
  have valid := s.pagesReady_iff
  have stops := s.hasStop_iff
  refine ⟨fun serving => ?go, fun serving => ?resume⟩
  case go =>
    have answers {words} (h : ownGo [] s.tookRequest = (s.tookRequest, .replying words false)) :
        AnswersOnly .go s words := answersOnly_of_exec (exec_go serving h)
    refine ⟨fun mode => answers (ownGo_wrongMode [] mode),
      fun mode bad => answers (ownGo_notValid [] mode (mt valid.mp bad)),
      fun mode ready stop => answers (ownGo_blocked [] mode (valid.mpr ready) (stops.mpr stop)),
      fun mode ready calm => ?_⟩
    have accepted := ownGo_accepted (s := s.tookRequest) [] mode (valid.mpr ready) (mt stops.mp calm)
    obtain ⟨run, list, walk, kept, cleared, owed⟩ := s.runAnswered_entersRun _ [6, 0]
    exact ⟨_, exec_go serving accepted, s.runAnswered_replied _ _,
      ⟨run, list, walk, fun i => ⟨kept i, cleared i, owed i⟩⟩, s.runAnswered_own _ _⟩
  case resume =>
    have answers {words} (h : ownResume [] s.tookRequest = (s.tookRequest, .replying words false)) :
        AnswersOnly .resume s words := answersOnly_of_exec (exec_resume serving h)
    refine ⟨fun mode => answers (ownResume_wrongMode [] mode),
      fun mode stop => answers (ownResume_stop [] mode (stops.mpr stop)),
      fun mode calm lost => answers (ownResume_linkLost [] mode (mt stops.mp calm) lost),
      fun mode calm linked bad => answers (ownResume_notValid [] mode (mt stops.mp calm) linked (mt valid.mp bad)),
      fun mode calm linked ready => ?_⟩
    have accepted := ownResume_accepted (s := s.tookRequest) [] mode (mt stops.mp calm) linked (valid.mpr ready)
    obtain ⟨run, list, walk, kept, cleared, owed⟩ := s.runAnswered_entersRun s.store [8, 0]
    exact ⟨_, exec_resume serving accepted, s.runAnswered_replied s.store _,
      ⟨run, list, walk, fun i => ⟨kept i, cleared i, owed i⟩⟩, s.runAnswered_own s.store _⟩

end

section
/-! PROOFS. STATUS and READ_IMAGE: both leave the state alone, and their data word by word (R184, R185, R188). -/

namespace Sys2Proof.Machine

/-! ### The fields that can be none and the flag -/

theorem optionWord_eq (x : Option Nat) : optionWord x = (x.map wordOfNat).getD noneWord := by
  cases x <;> rfl

theorem wordOfNat_boolToNat (b : Bool) : wordOfNat b.toNat = if b then 1 else 0 := by
  cases b <;> rfl

/-- The running maximum of the codes raised by one, so that only the empty list gives 0. -/
def highestSeverityRaised (l : List Entry) : Nat := l.foldl (fun n e => max n (e.severity.code + 1)) 0

/-- Raising every code by one raises the maximum by one. -/
theorem highestSeverityRaised_cons (e : Entry) (l : List Entry) :
    highestSeverityRaised (e :: l) = (l.map fun x => x.severity.code).foldl max e.severity.code + 1 := by
  have raise (n : Nat) (x : Entry) : max (n + 1) (x.severity.code + 1) = max n x.severity.code + 1 :=
    Nat.add_max_add_right ..
  calc
    highestSeverityRaised (e :: l)
      = l.foldl (fun n x => max n (x.severity.code + 1)) (e.severity.code + 1) := by
        rw [highestSeverityRaised, List.foldl_cons, Nat.zero_max]
    _ = l.foldl (fun n x => max n x.severity.code) e.severity.code + 1 := List.foldl_hom (· + 1) raise
    _ = _ := by rw [List.foldl_map]

/-- The highest severity of the list, none of the empty list (R184). -/
theorem optionWord_highestSeverity (l : List Entry) :
    optionWord (highestSeverity l) =
      if highestSeverityRaised l = 0 then noneWord else wordOfNat (highestSeverityRaised l - 1) := by
  cases l with
  | nil => rfl
  | cons e l =>
    rw [highestSeverityRaised_cons, if_neg (Nat.succ_ne_zero _), Nat.add_sub_cancel]
    rfl

/-! ### The two commands -/

theorem status_answersOnly {s : State} (h : Serving s 1 []) :
    AnswersOnly .status s (replyWords 1 .ok s.statusData) :=
  answersOnly_of_exec (congrArg _ (State.serve_owner h (by decide) rfl rfl))

theorem readImage_answersOnly {s : State} (h : Serving s 2 []) :
    AnswersOnly .readImage s (replyWords 2 .ok s.imageData) :=
  answersOnly_of_exec (congrArg _ (State.serve_owner h (by decide) rfl rfl))

end Sys2Proof.Machine

open Sys2Proof Sys2Proof.Machine

/-- Settles O52: both requests answer with their data in every mode, and the data are the listed words by
definition but for the fields that can be none and the inside-gated flag. -/
theorem statusAndImageReport : Obligations.StatusAndImageReport := by
  refine ⟨?status, ?readImage⟩
  case status =>
    intro s serving none16 counters highest
    have pending : optionWord (s.store.pendingProfile.map Fin.val)
        = (s.store.pendingProfile.map fun n => wordOfNat n.val).getD none16 := by
      rw [optionWord_eq, Option.map_map]
      rfl
    have severity : optionWord (highestSeverity s.alarm.list)
        = if highest = 0 then none16 else wordOfNat (highest - 1) := optionWord_highestSeverity _
    rw [← pending, ← severity]
    exact status_answersOnly serving
  case readImage =>
    intro s serving counters record
    rw [← wordOfNat_boolToNat]
    exact readImage_answersOnly serving

end

section
/-! PROOFS. What the commands can do, said once for the invariants: the elementary changes of each block, and every
command as a chain of them (`Changes`) or one of the events that are no such chain (`Ran`). -/

namespace Sys2Proof.Machine

/-! ### The elementary changes of each block -/

/-- What an event can do to a port, beside the frames of the part's own that the arbiter places (R4 to R16). -/
inductive PortChange (s : State) : Port → LinkPort → Prop
  | receiver (p : Port) (rx : Rx) (k : Counters) (n : Byte) :
      PortChange s p { s.port p with rx := rx, counters := k, consecBad := n }
  | enqueue (p : Port) (f : Frame) (room : (s.port p).rxQueue.length < rxCapacity p) :
      PortChange s p { s.port p with rxQueue := (s.port p).rxQueue ++ [f] }
  | dequeue (p : Port) (f : Frame) (rest : List Frame) (front : (s.port p).rxQueue = f :: rest) :
      PortChange s p { s.port p with rxQueue := rest }
  | forward (p : Port) (f : Frame) (room : (s.port p).txQueue.length < txCapacity p) :
      PortChange s p { s.port p with txQueue := (s.port p).txQueue ++ [⟨f, .forwarded⟩] }
  | send (p : Port) (sent : ∀ x, (s.port p).tx = some x → x.item.origin ≠ .restartReply) :
      PortChange s p { s.port p with tx := none }.takeHead

/-- What an event can do to one axis record, the station map apart (R29, R30, R32, R155). -/
inductive AxisChange (s : State) : Axis → AxisRecord → Prop
  | sample (a : Axis) (x : Sample) (ws : List Word) (due : Bool) (mapped : (s.axis a).state ≠ .unmapped)
      (good : sampleOf a ws = some x) : AxisChange s a ((s.axis a).accept x s.now due)
  | bad (a : Axis) : AxisChange s a { s.axis a with badSamples := bump (s.axis a).badSamples }
  | stale (a : Axis) (runs : (s.axis a).timer ≠ none) :
      AxisChange s a { s.axis a with state := .stale, timer := some s.now, overtaken := none }
  | expired (a : Axis) : AxisChange s a { s.axis a with overtaken := none }

/-- What an event can do to the Walk Sequencer, HALT entry included (R121, R124 to R126, R128, R131, R132, R136). -/
inductive WalkChange (s : State) : WalkSeq → Prop
  | counted (n : Word) : WalkChange s { s.walk with queueFull := n }
  | queued (r : StepRecord) (angle : Nat) (run : s.mode = .run) (valid : s.pageValid .walk = true)
      (room : s.walk.queue.length < Config.stepCapacity) :
      WalkChange s { s.walk with
        queue := s.walk.queue ++ [r], lockAngle := if s.walk.session then s.walk.lockAngle else some angle }
  | emptied : WalkChange s { s.walk with queue := [] }
  | prepared (r : StepRecord) (rest : List StepRecord) (idle : s.walk.state = .idle) (front : s.walk.queue = r :: rest) :
      WalkChange s { s.walk with
        state := .prep, queue := rest, current := some ⟨r, s.now, none, none, 0, 0, 0, 0, none⟩ }
  | started (c : CurrentStep) (ph : CamPhase) (prep : s.walk.state = .prep) (current : s.walk.current = some c) :
      WalkChange s { s.walk with
        state := .step, current := some { c with phase := some ph, phaseStart := some s.now } }
  | followed (c : CurrentStep) (ph : CamPhase) (moves : s.walk.state = .step ∨ s.walk.state = .setdown)
      (current : s.walk.current = some c)
      (goes : sampleEnds s.walk.state (decide (c.phase ≠ some ph)) ph c.cause = none) :
      WalkChange s { s.walk with current := some (c.enterPhase ph s.now) }
  | ended (c : Option CurrentStep) (q : List StepRecord) (result : StepResult) (current : c = none → s.walk.current = none)
      (queue : q = s.walk.queue ∨ q = []) :
      WalkChange s { { s.walk with current := c }.endStep s.now result with queue := q }
  | setDown (cause : SetdownCause) (step : s.walk.state = .step)
      (phase : s.walk.phase = some .p2 ∨ s.walk.phase = some .p3 ∨ s.walk.phase = some .p4) :
      WalkChange s ({ s.walk with queue := [] }.setDown cause)

/-- What an event can do to the Governor, REF, watchdog and ASSEMBLY apart (R63 to R67, R98, R117). -/
inductive GovChange (s : State) : Governor → Prop
  | expired (runs : s.gov.cycleTimer ≠ none) : GovChange s { s.gov with cycleTimer := some s.now, genWaiting := true }
  | generated : GovChange s { s.gov with genWaiting := false }
  | starts (op : Op) (edge : WalkRequest) (safe : OpSafe op) : GovChange s { s.gov with op := some op, edge := edge }
  | ropes (op : Op) (u : State) (zone : Zone) (gated : Bool) (current : s.gov.op = some op) :
      GovChange s { s.gov with zone := zone, insideGated := gated, op := some (u.ropeResult op) }
  | swings (op : Op) (u : State) (current : s.gov.op = some op) :
      GovChange s { s.gov with op := some (u.swingResult op) }

/-- What an event can do to the Table Store, the states and contents of the pages apart (R53 to R57). -/
inductive StoreChange (s : State) : Store → Prop
  | scan (x : Option CheckRun) (due : Bool) (idle : x = none ↔ s.store.scan = none) :
      StoreChange s { s.store with scan := x, scanDue := due }
  | pending (x : Option (Fin 4)) (offered : ∀ n, x = some n → s.pageValid (.profile n) = true ∧ n ≠ s.store.active) :
      StoreChange s { s.store with pendingProfile := x }
  | switched (n : Fin 4) (waits : s.store.pendingProfile = some n) :
      StoreChange s (Store.restartPass { s.store with active := n, pendingProfile := none })

/-- What an event can do to the Management Unit, a validation apart (R177, R179, R180). -/
inductive MgmtChange (s : State) : Mgmt → Prop
  | offered (f : Frame) (room : s.mgmt.queue.length < Config.requestCapacity) :
      MgmtChange s { s.mgmt with queue := s.mgmt.queue ++ [f] }
  | counted (n : Word) : MgmtChange s { s.mgmt with discards := n }
  | taken : MgmtChange s { s.mgmt with queue := s.mgmt.queue.tail }
  | replies (words : List Word) (restart : Bool) (free : s.mgmt.unit = .free) :
      MgmtChange s { s.mgmt with unit := .replying words restart }

/-! ### One elementary change, and chains of them -/

/-- One elementary change that the command `c` can make of the part at work. -/
inductive Change (c : Instr) (s : State) : State → Prop
  | settles : Change c s s.settle
  | port (p : Port) (x : LinkPort) (h : PortChange s p x) : Change c s (s.setPort p x)
  | axis (a : Axis) (r : AxisRecord) (h : AxisChange s a r) : Change c s (s.setAxis a r)
  | walk (w : WalkSeq) (h : WalkChange s w) : Change c s (s.withWalk w)
  | gov (g : Governor) (h : GovChange s g) : Change c s (s.setGov g)
  | store (t : Store) (h : StoreChange s t) : Change c s (s.setStore t)
  | mgmt (m : Mgmt) (h : MgmtChange s m) : Change c s (s.setMgmt m)
  | superseded (n : Word) : Change c s (s.setLinks { s.links with superseded := n })
  | refLeaves : Change c s (s.setLinks { s.links with waitingRef := none })
  | refTaken (f : Frame) :
      Change c s ((s.setLinks { s.links with watchdog := .running s.now, waitingRef := some f }).setGov
        { s.gov with cycleTimer := none })
  | watchdogExpires :
      Change c s ((s.setLinks { s.links with watchdog := .expired }).setGov
        { s.gov with cycleTimer := some s.now, edge := .none })
  | evaluate (i : AlarmId) (present : Bool) : Change c s (s.evaluate i present)
  | status (i : AlarmId) (x : AlarmStatus) : Change c s (s.setStatus i x)
  | acknowledged (e : Entry) : Change c s (s.ackEntry e).1
  | halts : Change c s s.enterHalt
  | goes (hc : c = .go) (loading : s.mode = .loading) (free : s.hasStop = false) :
      Change c s (s.enterRun.setStore { s.store with scan := some passStart, scanDue := false })
  | resumes (hc : c = .resume) (halted : s.mode = .halt) (free : s.hasStop = false) : Change c s s.enterRun
  | writes (id : PageId) (off : Nat) (data : List Word) (hc : c = .writePage) (free : s.mgmt.unit = .free)
      (fits : off + data.length ≤ id.size) : Change c s (s.writePage id off data)
  | validates (id : PageId) (free : s.mgmt.unit = .free) :
      Change c s ((s.setPageState id .validating).busyWith (.validating ⟨id, 0, crcInit⟩))
  | validated (v : CheckRun) (st : PageState) (words : List Word) (unit : s.mgmt.unit = .validating v)
      (outcome : st = .written ∨ st = .valid ∧ c = .validationComplete) :
      Change c s ((s.setPageState v.page st).busyWith (.replying words false))
  | fails (id : PageId) (hc : c = .scanAdvance) (valid : s.pageValid id = true) :
      Change c s (s.setPageState id .failed)

/-- A chain of elementary changes. -/
abbrev Changes (c : Instr) : State → State → Prop := Relation.ReflTransGen (Change c)

/-- The state in which RESTART_END has put the part to work, the held outcomes still to be taken (R178). -/
def State.resumed (s : State) : State :=
  let s1 : State :=
    { s with
      phase := .working
      links := { s.links with watchdog := .running s.now, held := [] }
      alarm := { s.alarm with resetCause := .commanded }
      mgmt := { s.mgmt with unit := .free } }
  if s1.pageValid .config then s1.mapTakesEffect else s1

/-- From `s` to `t` the command `c` was run: nothing took place, or a chain of elementary changes of the part at work
and what the part does of its own accord after it, or one of the events of the receivers, the time base, the clock, the
supply and the resets. -/
inductive Ran (c : Instr) (s : State) : State → Prop
  | idle : Ran c s s
  | settled (u : State) (working : s.phase = .working) (h : Changes c s u) : Ran c s u.settle
  | quiet (t : State) (working : s.phase = .working) (h : Changes c s t) (pins : t.pins = s.pins)
      (alarm : t.alarm = s.alarm) (unit : t.mgmt.unit = s.mgmt.unit) (now : t.now = s.now)
      (tx : ∀ p, (t.port p).tx = (s.port p).tx) (up : t.links.u.txQueue = s.links.u.txQueue) : Ran c s t
  | byte (p : Port) (rx : Rx) : Ran c s (s.setPort p { s.port p with rx := rx })
  | held (p : Port) (rx : Rx) (h : List (Port × RxOutcome)) (apart : s.phase ≠ .working) :
      Ran c s ((s.setPort p { s.port p with rx := rx }).setLinks
        { (s.setPort p { s.port p with rx := rx }).links with held := h })
  | assembled (op : Op) (working : s.phase = .working) (current : s.gov.op = some op) (stage : op.stage = .assembly) :
      Ran c s ((s.placeRef (composeFrame kindRef 0 (s.refWords op))).setGov (s.gov.afterAssembly op))
  | restarts (p : Port) (sent : Sending) (hc : c = .transmitComplete p) (working : s.phase = .working)
      (tx : (s.port p).tx = some sent) (reply : sent.item.origin = .restartReply) : Ran c s s.restartTakesEffect
  | resumed (u : State) (restarting : s.phase = .restarting true) (h : Changes c s.resumed u) : Ran c s u.settle
  | ticks (working : s.phase = .working) :
      Ran c s (State.drive ((s.tick.setMgmt { s.mgmt with unit := s.validationAdvance }).setStore
        { s.store with scanDue := s.store.scan.isSome && decide (s.mode ≠ .loading) }))
  | ticksRestarting (k : Bool) (restarting : s.phase = .restarting k) : Ran c s { s.tick with phase := .restarting true }
  | clock (running : Bool) (cut : Bool) :
      Ran c s { s with
        clk := running
        links := if cut then { s.links with u := s.links.u.cutSending, d := s.links.d.cutSending } else s.links }
  | off : Ran c s (State.drive { s with phase := .off })
  | resets (k : ResetKind) (hc : c = .powerOnReset ∨ ∃ ns, c = .pinReset ns) : Ran c s (s.enterReset k)
  | resetEnds (k : ResetKind) (straps : BitVec 6) (hc : c = .resetEnd straps) (phase : s.phase = .resetting k) :
      Ran c s { State.afterReset k (stationOfStraps straps) with pending := s.pending, clk := s.clk }

/-! ### The shared operations as chains of elementary changes -/

namespace Changes

variable {c : Instr} {s t : State}

theorem here : Changes c s s := .refl

theorem snoc {u : State} (h : Changes c s t) (k : Change c t u) : Changes c s u := h.tail k

theorem evaluate (h : Changes c s t) (i : AlarmId) (b : Bool) : Changes c s (t.evaluate i b) := h.tail (.evaluate i b)

theorem evaluateAll (h : Changes c s t) (evs : List (AlarmId × Bool)) : Changes c s (t.evaluateAll evs) := by
  induction evs generalizing t with
  | nil => exact h
  | cons e evs ih => exact ih (h.evaluate e.1 e.2)

theorem receiver (h : Changes c s t) (p : Port) (rx : Rx) (k : Counters) (n : Byte) :
    Changes c s (t.setPort p { t.port p with rx := rx, counters := k, consecBad := n }) :=
  h.tail (.port p _ (.receiver p rx k n))

theorem count (h : Changes c s t) (p : Port) (f : Counters → Counters) : Changes c s (t.count p f) :=
  h.receiver p (t.port p).rx (f (t.port p).counters) (t.port p).consecBad

theorem offerForward (h : Changes c s t) (p : Port) (f : Frame) : Changes c s (t.offerForward p f) := by
  simp only [State.offerForward]
  split
  · rename_i room; exact h.tail (.port p _ (.forward p f room))
  · exact h.count p _

theorem enqueueRx (h : Changes c s t) (p : Port) (f : Frame) : Changes c s (t.enqueueRx p f) := by
  simp only [State.enqueueRx]
  split
  · rename_i room; exact h.tail (.port p _ (.enqueue p f room))
  · exact h.count p _

theorem takeOutcome (h : Changes c s t) (p : Port) (o : RxOutcome) : Changes c s (t.takeOutcome p o) := by
  have counted := (h.receiver p (t.port p).rx (countOutcome o (t.port p).counters)
    (consecAfter o (t.port p).consecBad)).evaluate
  cases o with
  | good f => exact (counted _ _).enqueueRx p f
  | badCheck => exact counted _ _
  | badLength => exact counted _ _
  | truncated => exact counted _ _
  | misformed => exact counted _ _

theorem takeOutcomes (h : Changes c s t) (held : List (Port × RxOutcome)) :
    Changes c s (held.foldl (fun s o => s.takeOutcome o.1 o.2) t) := by
  induction held generalizing t with
  | nil => exact h
  | cons o held ih => exact ih (h.takeOutcome o.1 o.2)

theorem offerRequest (h : Changes c s t) (f : Frame) : Changes c s (t.offerRequest f) := by
  simp only [State.offerRequest]
  split
  · rename_i room; exact h.tail (.mgmt _ (.offered f room))
  · exact h.tail (.mgmt _ (.counted _))

theorem routeUp (h : Changes c s t) (f : Frame) : Changes c s (t.routeUp f) := by
  simp only [State.routeUp]
  split
  · split
    · exact (h.snoc (.refTaken f)).evaluate _ _
    · exact h.count .u _
  · split
    · split
      · exact h.offerRequest f
      · exact h.offerForward .d f
    · exact h.count .u _

/-! #### The Walk Sequencer -/

theorem withWalk (h : Changes c s t) {w : WalkSeq} (k : WalkChange t w) : Changes c s (t.withWalk w) :=
  h.tail (.walk w k)

end Changes

/-- Where the session does not end by it, a change of the Walk Sequencer evaluates nothing (R140). -/
theorem State.withWalk_of_session {s : State} {w : WalkSeq} (h : s.walk.session = true → w.session = true) :
    s.withWalk w = s.setWalk w := by
  simp only [State.withWalk]
  cases hs : s.walk.session with
  | false => rfl
  | true => rw [h hs]; rfl

theorem WalkSeq.session_iff (w : WalkSeq) : w.session = true ↔ w.state ≠ .idle ∨ w.queue ≠ [] := by
  simp only [WalkSeq.session, Bool.not_eq_true', Bool.and_eq_false_iff, decide_eq_false_iff_not, ne_eq,
    List.isEmpty_eq_false_iff]

/-- The end of a step keeps the queue, and finds it as it is. -/
theorem WalkSeq.endStep_queue (w : WalkSeq) (q : List StepRecord) (now : Time) (result : StepResult) :
    { w with queue := q }.endStep now result = { w.endStep now result with queue := q } := by
  obtain ⟨state, _ | c, queue, lock, full, history⟩ := w <;> rfl

/-- The step in hand ends, the queue being kept or emptied (R121). -/
theorem WalkChange.ends (s : State) (result : StepResult) : WalkChange s (s.walk.endStep s.now result) := by
  have ended := WalkChange.ended (s := s) s.walk.current s.walk.queue result id (.inl rfl)
  rwa [← WalkSeq.endStep_queue] at ended

theorem WalkChange.endsEmptied (s : State) (result : StepResult) :
    WalkChange s { s.walk.endStep s.now result with queue := [] } :=
  .ended s.walk.current [] result id (.inr rfl)

/-- HALT entry is one of the changes of the Walk Sequencer (R136). -/
theorem WalkChange.haltEntry (s : State) : WalkChange s (s.walk.haltEntry s.now) := by
  have stops : WalkChange s ({ s.walk with queue := [] }.endStep s.now .halted) :=
    (s.walk.endStep_queue [] s.now .halted).symm ▸ .endsEmptied s .halted
  simp only [WalkSeq.haltEntry]
  split
  · exact .emptied
  · exact stops
  · exact .emptied
  · rename_i step
    split
    · rename_i phase; exact .setDown .halted step (.inl phase)
    · rename_i phase; exact .setDown .halted step (.inr (.inl phase))
    · rename_i phase; exact .setDown .halted step (.inr (.inr phase))
    · exact stops

/-- So is what a CANCEL does (R125). -/
theorem WalkChange.cancel (s : State) : WalkChange s (s.walk.cancel s.now) := by
  have stops : WalkChange s ({ s.walk with queue := [] }.endStep s.now .cancelled) :=
    (s.walk.endStep_queue [] s.now .cancelled).symm ▸ .endsEmptied s .cancelled
  simp only [WalkSeq.cancel]
  split
  · exact .emptied
  · exact stops
  · exact .emptied
  · rename_i step
    split
    · rename_i phase; exact .setDown .cancelled step (.inl phase)
    · rename_i phase; exact .setDown .cancelled step (.inr (.inl phase))
    · exact .emptied
    · exact stops

namespace Changes

variable {c : Instr} {s t : State}

/-- A change of the Walk Sequencer that does not end the session. -/
theorem setWalk (h : Changes c s t) {w : WalkSeq} (k : WalkChange t w)
    (session : t.walk.session = true → w.session = true) : Changes c s (t.setWalk w) :=
  State.withWalk_of_session session ▸ h.withWalk k

theorem walkAxisLost (h : Changes c s t) : Changes c s t.walkAxisLost := by
  simp only [State.walkAxisLost]
  split
  · exact h.withWalk (.endsEmptied t .faulted)
  · exact h.withWalk (.endsEmptied t .faulted)
  · exact h
  · exact h

theorem walkSample (h : Changes c s t) : Changes c s t.walkSample := by
  simp only [State.walkSample]
  split
  · exact h
  · rename_i x current
    split
    · rename_i moves
      split
      · exact h.walkAxisLost
      · split
        · rename_i result ends
          have ended := WalkChange.ended (s := t) (some (x.enterPhase (t.camPhase (t.axis .walk).position) t.now))
            t.walk.queue result (fun none => absurd none (by simp)) (.inl rfl)
          rw [← WalkSeq.endStep_queue] at ended
          exact h.withWalk ended
        · rename_i goes
          split
          · exact (h.withWalk (.ended (some _) [] .stalled (fun none => absurd none (by simp)) (.inr rfl))).evaluate _ _
          · exact h.withWalk (.followed x _ moves current goes)
    · exact h

theorem swingSample (h : Changes c s t) : Changes c s t.swingSample := by
  simp only [State.swingSample]
  split
  · exact h
  · split
    · exact h.evaluate _ _
    · exact h

theorem goodSample (h : Changes c s t) (a : Axis) (x : Sample) (ws : List Word) (order : List Nat)
    (mapped : (t.axis a).state ≠ .unmapped) (good : sampleOf a ws = some x) :
    Changes c s (t.goodSample a x order) := by
  have evaluated := (h.snoc (.axis a _ (.sample a x ws (t.feedbackDue a || t.feedbackOvertaken a) mapped good))).evaluateAll
    (arrange order [(idStale a, false), (idDriveFault a, x.fault)])
  cases a with
  | hoist => exact evaluated
  | drag => exact evaluated
  | swing => exact evaluated.swingSample
  | walk => exact evaluated.walkSample

theorem takeSample (h : Changes c s t) (f : Frame) (order : List Nat) : Changes c s (t.takeSample f order) := by
  simp only [State.takeSample]
  split
  · exact h
  · rename_i a owner
    have mapped : (t.axis a).state ≠ .unmapped := by
      simp only [State.axisOfStation] at owner
      split at owner
      · have := List.find?_some owner
        simp only [Bool.and_eq_true, decide_eq_true_eq] at this
        exact this.1
      · cases owner
    split
    · rename_i x good; exact h.goodSample a x _ order mapped good
    · exact h.snoc (.axis a _ (.bad a))

/-! #### The walk stage and the operation -/

theorem requestStep (h : Changes c s t) (dir : Direction) : Changes c s (t.requestStep t.mode dir) := by
  simp only [State.requestStep]
  split
  · rename_i fit
    obtain ⟨run, valid, -⟩ := fit
    split
    · rename_i room
      exact h.setWalk (.queued _ _ run valid room) fun _ => by simp [WalkSeq.session]
    · exact h.setWalk (.counted _) id
  · exact h

theorem walkRequest (h : Changes c s t) (req : WalkRequest) (isNew : Bool) :
    Changes c s (t.walkRequest t.mode req isNew) := by
  simp only [State.walkRequest]
  split
  · exact h
  · cases req with
    | none => exact h
    | stepFwd => exact h.requestStep .forward
    | stepRev => exact h.requestStep .reverse
    | cancel => exact h.withWalk (.cancel t)

theorem leaveIdle (h : Changes c s t) (mode : Mode) : Changes c s (t.leaveIdle mode) := by
  simp only [State.leaveIdle]
  split
  · exact h
  · rename_i r rest front
    split
    · rename_i idle
      exact h.setWalk (.prepared r rest idle.1 front) fun _ => by simp [WalkSeq.session]
    · exact h

theorem tryStart (h : Changes c s t) (zone : Zone) : Changes c s (t.tryStart zone).1 := by
  simp only [State.tryStart]
  split
  · exact h
  · rename_i x current
    split
    · rename_i ready
      split
      · exact h.setWalk (.started x _ ready.1 current) fun _ => by simp [WalkSeq.session]
      · exact h.withWalk (.ends t .steerMoved)
    · exact h

theorem walkEvaluate (h : Changes c s t) (steer : Option Bool) (order : List Nat) :
    Changes c s (t.walkEvaluate steer order) := by
  simp only [State.walkEvaluate]
  split
  · exact h.evaluateAll _
  · exact (h.evaluateAll _).evaluateAll _

theorem walkStage (h : Changes c s t) (req : WalkRequest) (order : List Nat) :
    Changes c s (t.walkStage t.mode req order).1 :=
  (((h.walkRequest req _).leaveIdle t.mode).tryStart t.gov.zone).walkEvaluate _ order

theorem profileRequest (h : Changes c s t) (mode : Mode) (req : Word) : Changes c s (t.profileRequest mode req).1 := by
  simp only [State.profileRequest]
  split
  · exact h
  · split
    · exact h
    · split
      · exact h.snoc (.store _ (.pending none fun _ => nofun))
      · rename_i other
        split
        · split
          · rename_i small valid
            refine h.snoc (.store _ (.pending (some ⟨req.toNat, small⟩) ?_))
            rintro n ⟨⟩
            exact ⟨valid, fun active => other (congrArg Fin.val active)⟩
          · exact h
        · exact h

theorem profileSwitch (h : Changes c s t) : Changes c s t.profileSwitch := by
  simp only [State.profileSwitch]
  split
  · exact h
  · rename_i n waits
    split
    · exact h.snoc (.store _ (.switched n waits))
    · exact h

end Changes

/-! ### What the profile request and the switch leave alone -/

@[simp] theorem State.profileRequest_gov (s : State) (mode : Mode) (req : Word) :
    (s.profileRequest mode req).1.gov = s.gov := by
  simp only [State.profileRequest]
  repeat' split
  all_goals rfl

@[simp] theorem State.profileSwitch_gov (s : State) : s.profileSwitch.gov = s.gov := by
  simp only [State.profileSwitch]
  repeat' split
  all_goals rfl

/-! ### The start of an operation -/

/-- A field reads within its range, whatever the page holds (notes/assumptions/15.md). -/
theorem Field.read_mem (f : Field) (m : Memory) (h : f.lo ≤ f.hi) : f.lo ≤ f.read m ∧ f.read m ≤ f.hi := by
  simp only [Field.read]
  split
  · rename_i ok
    simpa [Field.ok] using ok
  · have := (Config.strayField (f.hi - f.lo) (f.raw m)).isLt
    omega

theorem signedBy_natAbs (dir : Direction) (n : Nat) : (signedBy dir n).natAbs = n := by
  cases dir <;> simp [signedBy]

theorem State.phaseSpeed_le (s : State) (dir : Direction) (ph : CamPhase) : s.phaseSpeed dir ph ≤ 1000 := by
  have le (k : Fin 4) : s.walkField (walkSpeed k) ≤ 1000 := (Field.read_mem (walkSpeed k) _ (by decide : 0 ≤ 1000)).2
  cases ph with
  | p1 => exact le 0
  | p2 => exact le 1
  | p3 => exact le 2
  | p4 => exact le 3
  | rest => cases dir with
    | forward => exact le 0
    | reverse => exact le 3

theorem State.walkTarget_le (s : State) : s.walkTarget.natAbs ≤ 1000 := by
  simp only [State.walkTarget]
  split
  · exact Nat.zero_le _
  · split
    · exact Nat.zero_le _
    · split
      · exact Nat.zero_le _
      · exact Nat.zero_le _
      · split
        · rw [signedBy_natAbs]; exact s.phaseSpeed_le _ _
        · exact Nat.zero_le _
      · rw [signedBy_natAbs]
        exact (Field.read_mem walkCrawl (s.page .walk).words (by decide)).2.trans (by decide)

theorem State.walkReference_le (s : State) : s.walkReference.natAbs ≤ 1000 := by
  simp only [State.walkReference]
  split
  · exact (slewFrom_natAbs_le _ _ _).trans s.walkTarget_le
  · exact Nat.zero_le _

theorem derateOf_le (l : List Entry) : derateOf l ≤ 256 := by
  have fold (l : List Entry) (n : Nat) : l.foldl (fun n e => min n e.factor) n ≤ n := by
    induction l generalizing n with
    | nil => exact le_rfl
    | cons e l ih => exact (ih _).trans (min_le_left _ _)
  exact fold _ _

theorem saturate_le (w : Word) : (saturate w).natAbs ≤ 1000 := by
  simp only [saturate]
  omega

/-- The inputs of an operation are within range, and a generated one's are 0 (R62, R64). -/
structure OpInputs.Safe (x : OpInputs) : Prop where
  commands  : x.hoist.natAbs ≤ 1000 ∧ x.drag.natAbs ≤ 1000 ∧ x.swing.natAbs ≤ 1000
  generated : x.generated = true → x.hoist = 0 ∧ x.drag = 0 ∧ x.swing = 0

theorem inputsOfRef_safe (ws : List Word) : (inputsOfRef ws).Safe :=
  ⟨⟨saturate_le _, saturate_le _, saturate_le _⟩, nofun⟩

theorem generatedInputs_safe : generatedInputs.Safe := ⟨by decide, fun _ => ⟨rfl, rfl, rfl⟩⟩

theorem follows_zero (c : Int) : follows 0 c := ⟨.inl rfl, Nat.zero_le _⟩

theorem Changes.startOperation {c : Instr} {s t : State} (h : Changes c s t) {x : OpInputs} (safe : x.Safe)
    (order : List Nat) : Changes c s (t.startOperation x order) := by
  refine (h.walkStage x.walk order).snoc (.gov _ (.starts _ _ ?_))
  exact {
    commands := safe.commands
    derate := derateOf_le _
    walk := State.walkReference_le _
    generated := safe.generated
    hoist := follows_zero _
    drag := follows_zero _
    swing := follows_zero _
    mode := fun _ => ⟨rfl, rfl, rfl⟩
    session := fun _ => ⟨le_rfl, le_rfl, rfl⟩
    brake := nofun
    held := nofun }

/-! ### The commands that take a frame, a sample, a timer or a stage -/

namespace Ran

variable {c : Instr} {s : State}

/-- A command that needs the part at work either finds it so or changes nothing. -/
theorem atWork {f : State → State} (h : s.phase = .working → Ran c s (f s)) : Ran c s (s.atWork f) := by
  simp only [State.atWork]
  split
  · rename_i working
    exact h (by simpa [State.working] using (Bool.and_eq_true_iff.mp working).1)
  · exact .idle

theorem endFrame (p : Port) (o : RxOutcome) : Ran c s (s.endFrame p o) := by
  simp only [State.endFrame]
  split
  · rename_i working
    exact .settled _ working
      ((Changes.receiver .refl p .hunting (s.port p).counters (s.port p).consecBad).takeOutcome p o)
  · rename_i apart
    exact .held p .hunting _ apart

theorem frameStart (p : Port) (b : Byte) : Ran c s (Machine.frameStart p b s) := by
  simp only [Machine.frameStart]
  split
  · split
    · split
      · exact .byte p _
      · exact .idle
    · split
      · exact .byte p _
      · exact .idle
  · exact .idle

theorem badLength (p : Port) (bytes : List Byte) : Ran c s (Machine.badLength p bytes s) := by
  simp only [Machine.badLength]
  split
  · exact .idle
  · split
    · exact endFrame p _
    · exact .idle

theorem frameComplete (p : Port) (bytes : List Byte) : Ran c s (Machine.frameComplete p bytes s) := by
  simp only [Machine.frameComplete]
  split
  · exact .idle
  · split
    · exact endFrame p _
    · exact .idle

theorem truncated (p : Port) (bytes : List Byte) (ns : Nat) : Ran c s (Machine.truncated p bytes ns s) := by
  simp only [Machine.truncated]
  split
  · exact .idle
  · split
    · exact endFrame p _
    · exact .idle

theorem routeUFrame : Ran c s (Machine.routeUFrame s) := by
  refine atWork fun working => ?_
  split
  · rename_i f rest _ front
    exact .settled _ working (Changes.routeUp (.single (.port .u _ (.dequeue .u f rest front))) f)
  · exact .idle

theorem routeDFrame (upFirst : Bool) (order : List Nat) : Ran c s (Machine.routeDFrame upFirst order s) := by
  refine atWork fun working => ?_
  split
  · exact .idle
  · rename_i f rest front
    have took : Changes c s (s.setPort .d { s.port .d with rxQueue := rest }) :=
      .single (.port .d _ (.dequeue .d f rest front))
    simp only [State.routeDown]
    split
    · split
      · exact .settled _ working ((took.offerForward .u f).takeSample f order)
      · exact .settled _ working (((took.takeSample f order).snoc .settles).offerForward .u f)
    · split
      · exact .settled _ working (took.offerForward .u f)
      · exact .quiet _ working (took.count .d _) rfl rfl rfl rfl (fun p => by cases p <;> rfl) rfl

theorem feedbackTimerExpiry (a : Axis) : Ran c s (Machine.feedbackTimerExpiry a s) := by
  refine atWork fun working => ?_
  split
  · rename_i due
    have runs : (s.axis a).timer ≠ none := by
      intro stopped
      simp [State.feedbackDue, stopped] at due
    have stale : Changes c s _ := .single (.axis a _ (.stale a runs))
    refine .settled _ working ?_
    simp only [State.axisExpires]
    split
    · exact stale.walkAxisLost.evaluate _ _
    · exact stale.evaluate _ _
  · split
    · exact .settled _ working (Changes.evaluate (.single (.axis a _ (.expired a))) _ _)
    · exact .idle

theorem transmitStart (p : Port) : Ran c s (Machine.transmitStart p s) := by
  refine atWork fun working => .settled _ working ?_
  cases free : (s.port p).tx with
  | none =>
    have same : { s.port p with tx := none } = s.port p := by rw [← free]
    have send := PortChange.send (s := s) p (by rw [free]; nofun)
    rw [same] at send
    exact .single (.port p _ send)
  | some sent =>
    have busy : (s.port p).takeHead = s.port p := by simp only [LinkPort.takeHead, free]
    rw [busy, State.setPort_self]

theorem transmitComplete (p : Port) : Ran (.transmitComplete p) s (Machine.transmitComplete p s) := by
  refine atWork fun working => ?_
  split
  · exact .idle
  · rename_i sent tx
    split
    · rename_i reply; exact .restarts p sent rfl working tx reply
    · rename_i other
      refine .settled _ working (.single (.port p _ (.send p ?_)))
      intro x hx reply
      cases tx.symm.trans hx
      exact other reply

theorem watchdogExpiry : Ran c s (Machine.watchdogExpiry s) := by
  refine atWork fun working => ?_
  split
  · exact .settled _ working (Changes.evaluate (.single .watchdogExpires) _ _)
  · exact .idle

theorem cycleTimerExpiry (order : List Nat) : Ran c s (Machine.cycleTimerExpiry order s) := by
  refine atWork fun working => ?_
  have expires : Changes c s s.cycleExpire := by
    simp only [State.cycleExpire]
    split
    · rename_i due
      refine .single (.gov _ (.expired fun stopped => ?_))
      simp [State.cycleDue, stopped] at due
    · exact .refl
  have links : s.cycleExpire.links = s.links ∧ s.cycleExpire.pins = s.pins ∧ s.cycleExpire.alarm = s.alarm
      ∧ s.cycleExpire.mgmt = s.mgmt ∧ s.cycleExpire.image = s.image := by
    simp only [State.cycleExpire]
    split <;> exact ⟨rfl, rfl, rfl, rfl, rfl⟩
  obtain ⟨links, pins, alarm, mgmt, image⟩ := links
  have quiet : Ran c s s.cycleExpire :=
    .quiet _ working expires pins alarm (by rw [mgmt]) (by simp only [State.now, image])
      (fun p => by simp only [State.port, links]) (by rw [links])
  dsimp only
  split
  · exact quiet
  · split
    · exact .settled _ working (Changes.startOperation (expires.snoc (.gov _ .generated)) generatedInputs_safe order)
    · exact quiet

theorem referenceOperation (order : List Nat) : Ran c s (Machine.referenceOperation order s) := by
  refine atWork fun working => ?_
  split
  · split
    · exact .idle
    · exact .settled _ working (Changes.startOperation (.single .refLeaves) (inputsOfRef_safe _) order)
  · exact .idle

theorem ropeStage (order : List Nat) : Ran c s (Machine.ropeStage order s) := by
  refine atWork fun working => ?_
  split
  · exact .idle
  · rename_i op current
    split
    · refine .settled _ working ?_
      have begun := (Changes.here (c := c) (s := s)).profileRequest op.mode op.profileRequest
      refine ((begun.profileSwitch.evaluate _ _).evaluateAll _).snoc (.gov _ (.ropes op _ _ _ ?_))
      simpa using current
    · exact .idle

theorem swingStage (order : List Nat) : Ran c s (Machine.swingStage order s) := by
  refine atWork fun working => ?_
  split
  · exact .idle
  · rename_i op current
    split
    · refine .settled _ working ((Changes.here.evaluateAll _).snoc (.gov _ (.swings op s ?_)))
      rw [State.evaluateAll_gov]
      exact current
    · exact .idle

theorem assembly : Ran c s (Machine.assembly s) := by
  refine atWork fun working => ?_
  split
  · exact .idle
  · rename_i op current
    split
    · rename_i stage; exact .assembled op working current stage
    · exact .idle

end Ran

/-! ### The scan and the end of a validation -/

namespace Changes

variable {s t : State}

theorem scanMoves {c : Instr} (h : Changes c s t) (busy : t.store.scan ≠ none) (x : CheckRun) :
    Changes c s (t.setStore { t.store with scan := some x }) :=
  h.snoc (.store _ (.scan (some x) t.store.scanDue (by simp [busy])))

theorem passEnds {c : Instr} (h : Changes c s t) (busy : t.store.scan ≠ none) : Changes c s t.passEnds := by
  simp only [State.passEnds]
  split
  · exact h.scanMoves busy _
  · exact (h.scanMoves busy _).evaluate _ _

theorem scanPages (h : Changes .scanAdvance s t) (busy : t.store.scan ≠ none) (pages : List PageId) (next : Nat)
    (reg : Word) (budget : Nat) : Changes .scanAdvance s (t.scanPages pages next reg budget) := by
  induction pages generalizing next reg budget with
  | nil => exact h.passEnds busy
  | cons id rest ih =>
    simp only [State.scanPages]
    split
    · exact ih ..
    · rename_i valid
      split
      · exact h.scanMoves busy _
      · split
        · exact h.scanMoves busy _
        · split
          · exact ih ..
          · exact (h.snoc (.fails id rfl (by simpa using valid))).evaluate _ _

end Changes

/-! ### What HALT and an acknowledgement leave alone -/

theorem State.enterHalt_frame (s : State) :
    s.enterHalt = (s.setAlarm s.enterHalt.alarm).setWalk s.enterHalt.walk := by
  simp only [State.enterHalt]
  split
  · rw [State.haltEntry_frame]; rfl
  · rfl

theorem State.ackEntry_frame (s : State) (e : Entry) : (s.ackEntry e).1 = s.setAlarm (s.ackEntry e).1.alarm := by
  simp only [State.ackEntry]
  split
  · rfl
  · split
    · rw [State.removeEntry_frame, State.hornFollow_frame]; rfl
    · rw [State.hornFollow_frame]; rfl

@[simp] theorem State.enterHalt_mgmt (s : State) : s.enterHalt.mgmt = s.mgmt := by rw [State.enterHalt_frame]; rfl
@[simp] theorem State.ackEntry_mgmt (s : State) (e : Entry) : (s.ackEntry e).1.mgmt = s.mgmt := by
  rw [State.ackEntry_frame]; rfl

namespace Ran

variable {c : Instr} {s : State}

theorem scanAdvance : Ran .scanAdvance s (Machine.scanAdvance s) := by
  refine atWork fun working => ?_
  split
  · exact .idle
  · rename_i pos busy
    split
    · refine .settled _ working (Changes.scanPages ?_ (by simp [busy]) _ _ _ _)
      exact .single (.store _ (.scan s.store.scan false .rfl))
    · exact .idle

theorem validationComplete : Ran .validationComplete s (Machine.validationComplete s) := by
  refine atWork fun working => ?_
  split
  · rename_i v unit
    split
    · have outcome : (s.validationOutcome v).1 = .written ∨ (s.validationOutcome v).1 = .valid := by
        simp only [State.validationOutcome]
        split
        · exact .inl rfl
        · split
          · exact .inl rfl
          · exact .inr rfl
      exact .settled _ working (.single (.validated v _ _ unit (outcome.imp_right (⟨·, rfl⟩))))
    · exact .idle
  · exact .idle
  · exact .idle
  · exact .idle

/-! ### The requests -/

/-- From `s` the owner of a request leaves the state `r.1` with the unit FREE and fixes a reply. -/
def Answers (c : Instr) (s : State) (r : State × MgmtUnit) : Prop :=
  Changes c s r.1 ∧ r.1.mgmt.unit = .free ∧ ∃ words restart, r.2 = .replying words restart

theorem Answers.busyWith {r : State × MgmtUnit} (h : Answers c s r) : Changes c s (r.1.busyWith r.2) := by
  obtain ⟨changes, free, words, restart, hr⟩ := h
  exact hr ▸ changes.snoc (.mgmt _ (.replies words restart free))

/-- The service of a request does what its owner does of the state in which it was taken. -/
theorem serve {code : Nat} {allowed : Nat → Bool} {owner : List Word → State → State × MgmtUnit}
    (h : ∀ args u, u.mgmt.unit = .free → Changes c s u → Changes c s ((owner args u).1.busyWith (owner args u).2)) :
    Ran c s (s.serve code allowed owner) := by
  refine atWork fun working => ?_
  split
  · exact .idle
  · rename_i f head
    have free : s.takeRequest.mgmt.unit = .free := by
      simp only [State.headRequest] at head
      split at head
      · assumption
      all_goals cases head
    have taken : Changes c s s.takeRequest := .single (.mgmt _ .taken)
    split
    · dsimp only
      split
      · exact .settled _ working (h _ _ free taken)
      · exact .settled _ working (taken.snoc (.mgmt _ (.replies _ _ free)))
    · exact .idle

/-- The service of a request whose owner answers it at once. -/
theorem serveAnswers {code : Nat} {allowed : Nat → Bool} {owner : List Word → State → State × MgmtUnit}
    (h : ∀ args u, u.mgmt.unit = .free → Changes c s u → Answers c s (owner args u)) :
    Ran c s (s.serve code allowed owner) :=
  serve fun args u free taken => (h args u free taken).busyWith

section Owners

variable {u : State} (free : u.mgmt.unit = .free) (taken : Changes c s u) (args : List Word)
include free taken

theorem answers_same (words : List Word) (restart : Bool) : Answers c s (u, .replying words restart) :=
  ⟨taken, free, _, _, rfl⟩

theorem answers_readPage : Answers c s (ownReadPage args u) := by
  simp only [ownReadPage]
  repeat' split
  all_goals exact answers_same free taken _ _

theorem answers_readAlarms : Answers c s (ownReadAlarms args u) := by
  simp only [ownReadAlarms]
  split
  all_goals exact answers_same free taken _ _

theorem answers_readAlarmStatus : Answers c s (ownReadAlarmStatus args u) := by
  simp only [ownReadAlarmStatus]
  split
  all_goals exact answers_same free taken _ _

theorem answers_readWalk : Answers c s (ownReadWalk args u) := by
  simp only [ownReadWalk]
  repeat' split
  all_goals exact answers_same free taken _ _

theorem answers_clearCounters : Answers c s (ownClearCounters args u) := by
  have counters := ((taken.receiver .u (u.port .u).rx Counters.zero (u.port .u).consecBad).receiver .d (u.port .d).rx
    Counters.zero (u.port .d).consecBad).snoc (.superseded 0)
  have walk := counters.setWalk (.counted 0) id
  exact ⟨walk.snoc (.mgmt _ (.counted 0)), free, _, _, rfl⟩

theorem answers_ownRestart : Answers c s (ownRestart args u) := by
  simp only [ownRestart]
  repeat' split
  all_goals exact answers_same free taken _ _

theorem answers_ownHalt : Answers c s (ownHalt args u) := by
  refine ⟨taken.snoc .halts, ?_, _, _, rfl⟩
  rw [ownHalt, State.enterHalt_mgmt]
  exact free

theorem answers_ownForce : Answers c s (ownForce args u) := by
  simp only [ownForce]
  split
  · exact answers_same free taken _ _
  · rename_i i _
    split
    · exact answers_same free taken _ _
    · split
      · exact answers_same free taken _ _
      · refine ⟨?_, ?_, _, _, rfl⟩
        · split
          · exact (taken.snoc (.status i _)).evaluate i true
          · exact taken.snoc (.status i _)
        · split
          · simpa [State.forceOn] using free
          · exact free

theorem answers_ownAckAlarm : Answers c s (ownAckAlarm args u) := by
  have acknowledged (l : List Entry) : Changes c s (u.ackAll l).1 ∧ (u.ackAll l).1.mgmt.unit = .free := by
    induction l generalizing u with
    | nil => exact ⟨taken, free⟩
    | cons e l ih => exact ih ((u.ackEntry_mgmt e).symm ▸ free) (taken.snoc (.acknowledged e))
  simp only [ownAckAlarm]
  split
  · exact ⟨(acknowledged _).1, (acknowledged _).2, _, _, rfl⟩
  · split
    · exact ⟨(acknowledged _).1, (acknowledged _).2, _, _, rfl⟩
    · exact answers_same free taken _ _

end Owners

section

variable {u : State} (free : u.mgmt.unit = .free) (args : List Word)
include free

theorem answers_ownGo (taken : Changes .go s u) : Answers .go s (ownGo args u) := by
  simp only [ownGo]
  split
  · exact answers_same free taken _ _
  · rename_i loading
    split
    · exact answers_same free taken _ _
    · split
      · exact answers_same free taken _ _
      · rename_i stops
        exact ⟨taken.snoc (.goes rfl (not_not.mp loading) (by simpa using stops)), free, _, _, rfl⟩

theorem answers_ownResume (taken : Changes .resume s u) : Answers .resume s (ownResume args u) := by
  simp only [ownResume]
  split
  · exact answers_same free taken _ _
  · rename_i halted
    split
    · exact answers_same free taken _ _
    · rename_i stops
      split
      · exact answers_same free taken _ _
      · split
        · exact answers_same free taken _ _
        · exact ⟨taken.snoc (.resumes rfl (not_not.mp halted) (by simpa using stops)), free, _, _, rfl⟩

theorem answers_ownWritePage (taken : Changes .writePage s u) : Answers .writePage s (ownWritePage args u) := by
  simp only [ownWritePage]
  split
  · exact answers_same free taken _ _
  · rename_i id _
    split
    · rename_i fits
      split
      · exact answers_same free taken _ _
      · refine ⟨taken.snoc (.writes id _ _ rfl free fits.2.2), ?_, _, _, rfl⟩
        simp only [State.writePage]
        rw [State.setPageState_frame]
        exact free
    · exact answers_same free taken _ _

theorem ownValidate_changes (taken : Changes .validate s u) :
    Changes .validate s ((ownValidate args u).1.busyWith (ownValidate args u).2) := by
  simp only [ownValidate]
  split
  · exact (answers_same free taken _ _).busyWith
  · split
    · exact (answers_same free taken _ _).busyWith
    · exact taken.snoc (.validates _ free)

end

theorem status : Ran .status s (s.serve 1 (exactly 0) ownStatus) :=
  serveAnswers fun _ _ free taken => answers_same free taken _ _

theorem readImage : Ran .readImage s (s.serve 2 (exactly 0) ownReadImage) :=
  serveAnswers fun _ _ free taken => answers_same free taken _ _

theorem readPage : Ran .readPage s (s.serve 3 (exactly 3) ownReadPage) :=
  serveAnswers fun args _ free taken => answers_readPage free taken args

theorem writePage : Ran .writePage s (s.serve 4 (2 ≤ ·) ownWritePage) :=
  serveAnswers fun args _ free taken => answers_ownWritePage free args taken

theorem validate : Ran .validate s (s.serve codeValidate (exactly 1) ownValidate) :=
  serve fun args _ free taken => ownValidate_changes free args taken

theorem go : Ran .go s (s.serve 6 (exactly 0) ownGo) :=
  serveAnswers fun args _ free taken => answers_ownGo free args taken

theorem halt : Ran .halt s (s.serve 7 (exactly 0) ownHalt) :=
  serveAnswers fun args _ free taken => answers_ownHalt free taken args

theorem resume : Ran .resume s (s.serve 8 (exactly 0) ownResume) :=
  serveAnswers fun args _ free taken => answers_ownResume free args taken

theorem restart : Ran .restart s (s.serve 9 (exactly 0) ownRestart) :=
  serveAnswers fun args _ free taken => answers_ownRestart free taken args

theorem ackAlarm : Ran .ackAlarm s (s.serve 10 (exactly 1) ownAckAlarm) :=
  serveAnswers fun args _ free taken => answers_ownAckAlarm free taken args

theorem readAlarms : Ran .readAlarms s (s.serve 11 (exactly 1) ownReadAlarms) :=
  serveAnswers fun args _ free taken => answers_readAlarms free taken args

theorem readAlarmStatus : Ran .readAlarmStatus s (s.serve 12 (exactly 2) ownReadAlarmStatus) :=
  serveAnswers fun args _ free taken => answers_readAlarmStatus free taken args

theorem force : Ran .force s (s.serve 13 (exactly 2) ownForce) :=
  serveAnswers fun args _ free taken => answers_ownForce free taken args

theorem readWalk : Ran .readWalk s (s.serve 14 (fun n => n == 1 || n == 2) ownReadWalk) :=
  serveAnswers fun args _ free taken => answers_readWalk free taken args

theorem clearCounters : Ran .clearCounters s (s.serve 15 (exactly 0) ownClearCounters) :=
  serveAnswers fun args _ free taken => answers_clearCounters free taken args

theorem unknownRequest : Ran c s (Machine.unknownRequest s) := by
  refine atWork fun working => ?_
  split
  · exact .idle
  · rename_i f head
    have free : s.takeRequest.mgmt.unit = .free := by
      simp only [State.headRequest] at head
      split at head
      · assumption
      all_goals cases head
    have answered (words : List Word) : Changes c s (s.takeRequest.busyWith (.replying words false)) :=
      (answers_same free (.single (.mgmt _ .taken)) words false).busyWith
    split
    · exact .settled _ working (answered _)
    · split
      · exact .idle
      · exact .settled _ working (answered _)

/-! ### The resets, the clock and the time base -/

theorem restartEnd : Ran c s (Machine.restartEnd s) := by
  simp only [Machine.restartEnd]
  split
  · rename_i h
    exact .resumed _ h.2 (Changes.here.takeOutcomes s.links.held)
  · exact .idle

theorem pinReset (ns : Nat) : Ran (.pinReset ns) s (Machine.pinReset ns s) := by
  simp only [Machine.pinReset]
  split
  · exact .idle
  · split
    · exact .resets .pin (.inr ⟨ns, rfl⟩)
    · exact .resets .pin (.inr ⟨ns, rfl⟩)
    · exact .idle
    · exact .idle

theorem resetEnd (straps : BitVec 6) : Ran (.resetEnd straps) s (Machine.resetEnd straps s) := by
  simp only [Machine.resetEnd]
  split
  · rename_i k phase; exact .resetEnds k straps rfl phase
  · exact .idle
  · exact .idle
  · exact .idle

theorem timeBaseAdvance : Ran c s (Machine.timeBaseAdvance s) := by
  simp only [Machine.timeBaseAdvance]
  split
  · split
    · rename_i working; exact .ticks working
    · rename_i k restarting; exact .ticksRestarting k restarting
    · exact .idle
    · exact .idle
  · exact .idle

end Ran

/-! ### Every command -/

/-- The state that a command answers: there is no fault and no refusal (INVENTORY.md, Faults). -/
def State.after (s : State) (c : Instr) : State :=
  match exec c s with
  | .next t => t
  | .fault _ => s
  | .refused _ => s

theorem exec_eq (c : Instr) (s : State) : exec c s = .next (s.after c) := by
  cases c <;> rfl

/-- Every command is an event of `Ran`. -/
theorem State.ran (s : State) (c : Instr) : Ran c s (s.after c) := by
  cases c with
  | frameStart p b => exact .frameStart p b
  | badLength p bytes => exact .badLength p bytes
  | frameComplete p bytes => exact .frameComplete p bytes
  | truncated p bytes ns => exact .truncated p bytes ns
  | routeUFrame => exact .routeUFrame
  | routeDFrame upFirst order => exact .routeDFrame upFirst order
  | feedbackTimerExpiry a => exact .feedbackTimerExpiry a
  | transmitStart p => exact .transmitStart p
  | transmitComplete p => exact .transmitComplete p
  | watchdogExpiry => exact .watchdogExpiry
  | cycleTimerExpiry order => exact .cycleTimerExpiry order
  | referenceOperation order => exact .referenceOperation order
  | ropeStage order => exact .ropeStage order
  | swingStage order => exact .swingStage order
  | assembly => exact .assembly
  | scanAdvance => exact .scanAdvance
  | validationComplete => exact .validationComplete
  | status => exact .status
  | readImage => exact .readImage
  | readPage => exact .readPage
  | writePage => exact .writePage
  | validate => exact .validate
  | go => exact .go
  | halt => exact .halt
  | resume => exact .resume
  | restart => exact .restart
  | ackAlarm => exact .ackAlarm
  | readAlarms => exact .readAlarms
  | readAlarmStatus => exact .readAlarmStatus
  | force => exact .force
  | readWalk => exact .readWalk
  | clearCounters => exact .clearCounters
  | unknownRequest => exact .unknownRequest
  | restartEnd => exact .restartEnd
  | powerOnReset => exact .resets .powerOn (.inl rfl)
  | pinReset ns => exact .pinReset ns
  | resetEnd straps => exact .resetEnd straps
  | timeBaseAdvance => exact .timeBaseAdvance
  | clockStop => exact .clock false true
  | clockRestart => exact .clock true false
  | supplyLoss => exact .off

/-- What every event keeps, and what does not see the queue of commands, every step keeps. -/
theorem step_keeps {P : State → Prop} (pending : ∀ s cs, P s → P { s with pending := cs })
    (ran : ∀ c s t, P s → Ran c s t → P t) (s t : State) (h : P s) (hs : step s = .next t) : P t := by
  simp only [step] at hs
  split at hs
  · cases hs; exact h
  · rename_i c rest _
    rw [exec_eq] at hs
    cases hs
    exact ran c _ _ (pending s rest h) (State.ran _ c)

end Sys2Proof.Machine
end

section
/-! PROOFS. A change of a page's state, taken apart once: the Table Store first, then the users of a page that enters or
leaves VALID (R50, R59). -/

namespace Sys2Proof.Machine

/-- The state in which the page has gone to `st` and the pass has restarted where the page is covered, before its users
change (R42, R59). -/
def State.pageStored (s : State) (id : PageId) (st : PageState) : State :=
  s.setStore (if (s.page id).state ≠ st ∧ id ∈ s.covered
    then (s.store.setPage id { s.page id with state := st }).restartPass
    else s.store.setPage id { s.page id with state := st })

theorem State.setPageState_cases (s : State) (id : PageId) (st : PageState) :
    ((s.page id).state = .valid ∧ st ≠ .valid ∧ s.setPageState id st = (s.pageStored id st).pageLost id)
    ∨ ((s.page id).state ≠ .valid ∧ st = .valid ∧ s.setPageState id st = (s.pageStored id st).pageGained id)
    ∨ (((s.page id).state = .valid ↔ st = .valid) ∧ s.setPageState id st = s.pageStored id st) := by
  by_cases old : (s.page id).state = .valid <;> by_cases new : st = .valid
  · exact .inr (.inr ⟨iff_of_true old new, by simp [State.setPageState, State.pageStored, old, new]⟩)
  · refine .inl ⟨old, new, ?_⟩
    rw [State.setPageState, if_pos ⟨old, new⟩]
    rfl
  · refine .inr (.inl ⟨old, new, ?_⟩)
    rw [State.setPageState, if_neg (fun h => old h.1), if_pos ⟨old, new⟩]
    rfl
  · exact .inr (.inr ⟨iff_of_false old new, by rw [State.setPageState, if_neg (fun h => old h.1), if_neg (fun h => new h.2)]; rfl⟩)

/-- The state in which WRITE_PAGE has stored its words, the page's state standing (R44). -/
def State.wordsStored (s : State) (id : PageId) (off : Nat) (data : List Word) : State :=
  s.setStore (s.store.setPage id { s.page id with words := Memory.writeFrom (s.page id).words off data })

theorem State.writePage_eq (s : State) (id : PageId) (off : Nat) (data : List Word) :
    s.writePage id off data = (s.wordsStored id off data).setPageState id .written := rfl

theorem State.pageValid_of_store {s t : State} (h : t.store = s.store) (id : PageId) :
    t.pageValid id = s.pageValid id := by
  unfold State.pageValid State.page
  rw [h]

/-! ### What the Table Store holds then -/

@[simp] theorem State.pageStored_page (s : State) (id : PageId) (st : PageState) :
    (s.pageStored id st).page id = { s.page id with state := st } := by
  rw [State.pageStored]
  split <;> simp [State.page]

theorem State.pageStored_page_ne (s : State) {id j : PageId} (st : PageState) (h : j ≠ id) :
    (s.pageStored id st).page j = s.page j := by
  rw [State.pageStored]
  split <;> simp [State.page, Store.page_setPage_ne _ _ h]

@[simp] theorem State.pageStored_active (s : State) (id : PageId) (st : PageState) :
    (s.pageStored id st).store.active = s.store.active := by
  simp only [State.pageStored, State.setStore_store]
  split <;> simp [Store.restartPass]

@[simp] theorem State.pageStored_pendingProfile (s : State) (id : PageId) (st : PageState) :
    (s.pageStored id st).store.pendingProfile = s.store.pendingProfile := by
  simp only [State.pageStored, State.setStore_store]
  split <;> simp [Store.restartPass]

/-- The restart of the pass leaves the idle scan idle (R59). -/
theorem State.pageStored_scan (s : State) (id : PageId) (st : PageState) :
    (s.pageStored id st).store.scan = none ↔ s.store.scan = none := by
  simp only [State.pageStored, State.setStore_store]
  split <;> simp [Store.restartPass]

/-! ### The users of a page that ceases to be VALID -/

theorem State.pageLost_cases (s : State) (id : PageId) :
    (id = .config ∧ (s.pageLost id = s.setImage s.image.unmapAll
        ∨ s.pageLost id = (s.setImage s.image.unmapAll).walkAxisLost))
    ∨ (id = .walk ∧ s.pageLost id = s.walkPageLost)
    ∨ (s.pageLost id = s ∧ id ≠ .config ∧ id ≠ .walk ∧ ∀ n, id = .profile n → s.store.pendingProfile ≠ some n)
    ∨ ∃ n, id = .profile n ∧ s.store.pendingProfile = some n
        ∧ s.pageLost id = s.setStore { s.store with pendingProfile := none } := by
  cases id with
  | config =>
    refine .inl ⟨rfl, ?_⟩
    simp only [State.pageLost, State.mapEnds]
    split
    · exact .inr rfl
    · exact .inl rfl
  | walk => exact .inr (.inl ⟨rfl, rfl⟩)
  | alarm => exact .inr (.inr (.inl ⟨rfl, nofun, nofun, nofun⟩))
  | profile n =>
    by_cases waits : s.store.pendingProfile = some n
    · exact .inr (.inr (.inr ⟨n, rfl, waits, if_pos waits⟩))
    · refine .inr (.inr (.inl ⟨if_neg waits, nofun, nofun, ?_⟩))
      rintro _ ⟨⟩
      exact waits

/-- What holds of every state up to the Table Store and the records, and is kept by the loss of the walk axis and of the
WALK page, a change of a page's state keeps. -/
theorem State.setPageState_keeps {P : State → Prop} {s : State} (id : PageId) (st : PageState) (h : P s)
    (store : ∀ u x, P u → P (u.setStore x)) (image : ∀ u m, P u → P (u.setImage m))
    (walk : ∀ u w, P u → P (u.withWalk w)) : P (s.setPageState id st) := by
  have lost {u : State} (hu : P u) : P u.walkAxisLost := by
    simp only [State.walkAxisLost]
    split
    · exact walk _ _ hu
    · exact walk _ _ hu
    · exact hu
    · exact hu
  have stored : P (s.pageStored id st) := store _ _ h
  obtain ⟨-, -, e⟩ | ⟨-, -, e⟩ | ⟨-, e⟩ := s.setPageState_cases id st
  · rw [e]
    obtain ⟨-, e | e⟩ | ⟨-, e⟩ | ⟨e, -⟩ | ⟨n, -, -, e⟩ := (s.pageStored id st).pageLost_cases id
    · rw [e]; exact image _ _ stored
    · rw [e]; exact lost (image _ _ stored)
    · rw [e]; exact walk _ _ stored
    · rw [e]; exact stored
    · rw [e]; exact store _ _ stored
  · rw [e, State.pageGained_frame]
    exact image _ _ stored
  · exact e ▸ stored

end Sys2Proof.Machine
end

section
/-! PROOFS. The active alarm list: one entry per ID, and no RUN beside a STOP entry (R152, R168). -/

namespace Sys2Proof.Machine

theorem State.entry?_eq_none_iff {s : State} {i : AlarmId} : s.entry? i = none ↔ i ∉ s.alarm.list.map (·.id) := by
  simp [State.entry?, List.find?_eq_none]

/-- What an absent evaluation of an ID that is not forced does to the list (R148, R153). -/
theorem State.absent0_list {s : State} {i : AlarmId} (free : (s.status i).forced = false) :
    (s.absent0 i).mode = s.mode
      ∧ ((s.absent0 i).alarm.list = s.alarm.list
        ∨ (s.absent0 i).alarm.list = s.alarm.list.filter fun e => decide (e.id ≠ i)) := by
  obtain ⟨-, h⟩ | ⟨e, he, -, h⟩ | ⟨e, -, -, -, h⟩ := State.absent0_of_free free
  · rw [h, State.rearmTest_mode, State.rearmTest_list]
    exact ⟨rfl, .inl rfl⟩
  · obtain rfl := State.entry?_id he
    rw [h, State.rearmTest_mode, State.rearmTest_list, State.removeEntry_mode, State.removeEntry_list]
    exact ⟨rfl, .inr rfl⟩
  · rw [h, State.rearmTest_mode, State.rearmTest_list]
    exact ⟨rfl, .inl rfl⟩

namespace AlarmListSound

variable {s t : State}

/-- The bound follows: there are 24 IDs. -/
theorem of_once (once : (s.alarm.list.map (·.id)).Nodup)
    (stop : (∃ e ∈ s.alarm.list, e.severity = .stop) → s.mode ≠ .run) : AlarmListSound s where
  once := once
  bound := by simpa using once.length_le_card
  stop := stop

theorem of_eq (h : AlarmListSound s) (alarm : t.alarm = s.alarm) : AlarmListSound t := by
  obtain ⟨once, bound, stop⟩ := h
  rw [← alarm] at once bound stop
  have mode : t.mode = s.mode := congrArg AlarmUnit.mode alarm
  exact ⟨once, bound, fun he => mode ▸ stop he⟩

theorem of_sublist (h : AlarmListSound s) (list : t.alarm.list.Sublist s.alarm.list) (mode : t.mode = s.mode) :
    AlarmListSound t := by
  refine of_once (h.once.sublist (list.map _)) fun ⟨e, he, stop⟩ => ?_
  rw [mode]
  exact h.stop ⟨e, list.subset he, stop⟩

theorem present0 (h : AlarmListSound s) (i : AlarmId) : AlarmListSound (s.present0 i) := by
  by_cases raises : raisesNow s i
  · have unlisted : i ∉ s.alarm.list.map (·.id) := State.entry?_eq_none_iff.mp raises.2.2.2.1
    obtain ⟨-, -, -, halts⟩ := (State.present0_taken s i).raised raises
    have list : (s.present0 i).alarm.list = s.alarm.list ++ [entryOf s i] := by
      rw [State.present0_of_raises raises, State.raise_list]
      rfl
    refine of_once ?_ fun ⟨e, he, stop⟩ => ?_
    · rw [list, List.map_append, List.map_singleton, List.nodup_append]
      refine ⟨h.once, List.nodup_singleton _, ?_⟩
      rintro a ha b hb rfl
      obtain rfl := List.mem_singleton.mp hb
      exact unlisted ha
    · rw [list, List.mem_append, List.mem_singleton] at he
      obtain he | rfl := he
      · have standing := h.stop ⟨e, he, stop⟩
        obtain same | ⟨run, -⟩ := State.present0_mode s i
        · rw [same]; exact standing
        · exact absurd run standing
      · exact halts stop
  · exact h.of_sublist (by rw [State.present0_of_stands raises]; exact .refl _)
      (by rw [State.present0_of_stands raises]; rfl)

theorem absent0 (h : AlarmListSound s) (i : AlarmId) : AlarmListSound (s.absent0 i) := by
  cases hf : (s.status i).forced with
  | true => exact State.absent0_of_forced hf ▸ h.present0 i
  | false =>
    obtain ⟨mode, list | list⟩ := State.absent0_list hf
    · exact h.of_sublist (list ▸ .refl _) mode
    · exact h.of_sublist (list ▸ List.filter_sublist) mode

theorem haltEntry (h : AlarmListSound s) : AlarmListSound s.haltEntry := by
  have entered : AlarmListSound (s.setWalk (s.walk.haltEntry s.now)) := h.of_eq rfl
  obtain e | e := State.haltEntry_cases s
  · exact e ▸ entered
  · exact e ▸ entered.absent0 _

theorem evaluate (h : AlarmListSound s) (i : AlarmId) (b : Bool) : AlarmListSound (s.evaluate i b) := by
  have evaluated : AlarmListSound (s.evaluate0 i b) := by
    cases b
    · exact h.absent0 i
    · exact h.present0 i
  obtain ⟨-, e⟩ | ⟨-, -, e⟩ := State.evaluate_cases s i b
  · exact e ▸ evaluated
  · exact e ▸ evaluated.haltEntry

theorem withWalk (h : AlarmListSound s) (w : WalkSeq) : AlarmListSound (s.withWalk w) := by
  have changed : AlarmListSound (s.setWalk w) := h.of_eq rfl
  simp only [State.withWalk]
  split
  · exact changed.evaluate _ _
  · exact changed

theorem setPageState (h : AlarmListSound s) (id : PageId) (st : PageState) : AlarmListSound (s.setPageState id st) :=
  State.setPageState_keeps id st h (fun _ _ h => h.of_eq rfl) (fun _ _ h => h.of_eq rfl) fun _ w h => h.withWalk w

theorem acknowledged (h : AlarmListSound s) (e : Entry) : AlarmListSound (s.ackEntry e).1 := by
  have marked : AlarmListSound (State.hornFollow (s.setAlarm { s.alarm with
      list := s.alarm.list.map fun x => if x.id = e.id then { x with acked := true } else x })) := by
    refine of_once ?_ ?_
    · rw [State.hornFollow_list]
      have ids : (fun x : Entry => (if x.id = e.id then { x with acked := true } else x).id) = (·.id) := by
        funext x; split <;> rfl
      simpa [Function.comp_def, ids] using h.once
    · rw [State.hornFollow_list, State.hornFollow_mode]
      rintro ⟨x, hx, stop⟩
      obtain ⟨y, hy, rfl⟩ := List.mem_map.mp hx
      refine h.stop ⟨y, hy, ?_⟩
      split at stop <;> exact stop
  simp only [State.ackEntry]
  split
  · exact h
  · split
    · exact marked.of_sublist (by rw [State.removeEntry_list]; exact List.filter_sublist) (State.removeEntry_mode _ _)
    · exact marked.of_sublist (.refl _) rfl

theorem changes {c : Instr} (h : AlarmListSound s) (k : Changes c s t) : AlarmListSound t := by
  have runs {u : State} (h : AlarmListSound u) (free : u.hasStop = false) : AlarmListSound u.enterRun := by
    refine of_once h.once fun he => ?_
    rw [(State.hasStop_iff u).mpr he] at free
    cases free
  induction k with
  | refl => exact h
  | tail _ k ih =>
    cases k with
    | settles => exact ih.of_sublist (by simp) (State.settle_mode _)
    | evaluate i b => exact ih.evaluate i b
    | walk w => exact ih.withWalk w
    | acknowledged e => exact ih.acknowledged e
    | halts =>
      simp only [State.enterHalt]
      split
      · refine haltEntry (of_once ih.once fun _ => ?_)
        exact nofun
      · exact ih
    | goes _ _ free => exact (runs ih free).of_eq rfl
    | resumes _ _ free => exact runs ih free
    | writes id off data =>
      have stored {u : State} (hu : AlarmListSound u) : AlarmListSound (u.wordsStored id off data) := hu.of_eq rfl
      exact (stored ih).setPageState id .written
    | validates id => exact (ih.setPageState id .validating).of_eq rfl
    | validated v st => exact (ih.setPageState v.page st).of_eq rfl
    | fails id => exact ih.setPageState id .failed
    | status => exact ih.of_sublist (.refl _) rfl
    | _ => exact ih.of_eq rfl

theorem settle (h : AlarmListSound s) : AlarmListSound s.settle := h.of_sublist (by simp) (State.settle_mode s)

theorem empty {cause : ResetKind} (h : s.alarm = .fresh cause) : AlarmListSound s :=
  of_once (by rw [h]; exact List.nodup_nil) (by rw [h]; exact fun ⟨_, he, _⟩ => absurd he (List.not_mem_nil))

theorem ran {c : Instr} (h : AlarmListSound s) (k : Ran c s t) : AlarmListSound t := by
  cases k with
  | settled u _ k => exact (h.changes k).settle
  | quiet _ _ k => exact h.changes k
  | resumed u _ k =>
    have resumed : AlarmListSound s.resumed := by
      simp only [State.resumed]
      split <;> exact h.of_sublist (.refl _) rfl
    exact (resumed.changes k).settle
  | assembled =>
    refine h.of_eq ?_
    simp only [State.placeRef]
    repeat' split
    all_goals rfl
  | restarts => exact empty rfl
  | resets => exact empty rfl
  | resetEnds => exact empty rfl
  | _ => exact h.of_eq rfl

end AlarmListSound

end Sys2Proof.Machine

open Sys2Proof Sys2Proof.Machine

/-- Settles O6: `AlarmListSound` is kept by every elementary change, so by every event; only a raise lengthens the list,
of an ID that is not in it, and a raise of a STOP entry leaves RUN. -/
theorem alarmListSoundKept : Obligations.AlarmListSoundKept :=
  step_keeps (fun _ _ h => h.of_eq rfl) fun _ _ _ h k => h.ran k

end

section
/-! PROOFS. The Walk Sequencer: step, queue, history and lock angle agree (R119 to R121, R136, R138, R140). -/

namespace Sys2Proof.Machine

theorem State.ackEntry_mode (s : State) (e : Entry) : (s.ackEntry e).1.mode = s.mode := by
  have marked (l : List Entry) (x : AlarmStatus) :
      (((s.setAlarm { s.alarm with list := l }).hornFollow).setStatus e.id x).mode = s.mode := State.hornFollow_mode _
  simp only [State.ackEntry]
  split
  · rfl
  · split
    · rw [State.removeEntry_mode]; exact marked _ _
    · exact marked _ _

theorem pushHistory_length {h : List HistoryRecord} (r : HistoryRecord) (hl : h.length ≤ 8) :
    (pushHistory h r).length ≤ 8 := by
  have capacity : Config.historyCapacity = 8 := rfl
  simp only [pushHistory]
  split
  · simp; omega
  · simp; omega

@[simp] theorem CurrentStep.closePhase_kept (c : CurrentStep) (now : Time) :
    (c.closePhase now).cause = c.cause ∧ (c.closePhase now).phase = c.phase
      ∧ (c.closePhase now).phaseStart = c.phaseStart ∧ (c.closePhase now).record = c.record
      ∧ (c.closePhase now).start = c.start := by
  simp only [CurrentStep.closePhase]
  split <;> exact ⟨rfl, rfl, rfl, rfl, rfl⟩

/-- HALT entry empties the queue. -/
@[simp] theorem WalkSeq.haltEntry_queue (w : WalkSeq) (now : Time) : (w.haltEntry now).queue = [] := by
  have ended (q : List StepRecord) (result : StepResult) : ({ w with queue := q }.endStep now result).queue = q := by
    rw [WalkSeq.endStep_queue]
  simp only [WalkSeq.haltEntry]
  split
  · rfl
  · exact ended _ _
  · rfl
  · split
    · rfl
    · rfl
    · rfl
    · exact ended _ _

/-- A step that runs on after a sample in SETDOWN is in P2, P3 or P4 (R132). -/
theorem sampleEnds_setdown {changed : Bool} {ph : CamPhase} {cause : Option SetdownCause}
    (h : sampleEnds .setdown changed ph cause = none) : ph = .p2 ∨ ph = .p3 ∨ ph = .p4 := by
  cases ph <;> simp_all [sampleEnds]

theorem CurrentStep.enterPhase_kept (c : CurrentStep) (ph : CamPhase) (now : Time) (h : c.phaseStart ≠ none) :
    (c.enterPhase ph now).phase = some ph ∧ (c.enterPhase ph now).phaseStart ≠ none
      ∧ (c.enterPhase ph now).cause = c.cause := by
  simp only [CurrentStep.enterPhase]
  split
  · rename_i same; exact ⟨same, h, rfl⟩
  · exact ⟨rfl, nofun, (c.closePhase_kept now).1⟩

/-- The end of a step leaves the sequencer IDLE without a step, where the step agreed with the state before it. -/
theorem stepAgrees_endStep {w : WalkSeq} (now : Time) (result : StepResult)
    (agrees : w.current = none → w.state = .idle) :
    (w.endStep now result).state = .idle ∧ (w.endStep now result).current = none := by
  simp only [WalkSeq.endStep]
  split
  · rename_i none; exact ⟨agrees none, none⟩
  · exact ⟨rfl, rfl⟩

theorem stepAgrees_none {x : SeqState} {c : Option CurrentStep} (h : stepAgrees x c) (hc : c = none) : x = .idle := by
  subst hc
  cases x with
  | idle => rfl
  | prep => obtain ⟨_, h, _⟩ := h; cases h
  | step => obtain ⟨_, _, h, _⟩ := h; cases h
  | setdown => obtain ⟨_, h, _⟩ := h; cases h

theorem WalkSeq.endStep_history (w : WalkSeq) (now : Time) (result : StepResult) (h : w.history.length ≤ 8) :
    (w.endStep now result).history.length ≤ 8 := by
  simp only [WalkSeq.endStep]
  split
  · exact h
  · exact pushHistory_length _ h

namespace WalkSound

variable {s t : State}

theorem of_eq (h : WalkSound s) (walk : t.walk = s.walk) (mode : t.mode = s.mode)
    (valid : t.pageValid .walk = s.pageValid .walk) : WalkSound t := by
  obtain ⟨agrees, queue, outside, history, lock, page⟩ := h
  rw [← walk] at agrees queue outside history lock page
  rw [← mode] at outside
  rw [← valid] at page
  exact ⟨agrees, queue, outside, history, lock, page⟩

/-- The mode and the WALK page do not matter while no session is active. -/
theorem of_no_session (h : WalkSound s) (walk : t.walk = s.walk) (idle : s.walk.session = false) : WalkSound t := by
  have empty : s.walk.queue = [] := by
    by_contra queued
    rw [(WalkSeq.session_iff _).mpr (.inr queued)] at idle
    cases idle
  obtain ⟨agrees, queue, -, history, lock, -⟩ := h
  rw [← walk] at agrees queue history lock idle empty
  exact ⟨agrees, queue, fun _ => empty, history, lock, fun session => absurd (idle.symm.trans session) nofun⟩

/-- Every change of the Walk Sequencer keeps the agreement. -/
theorem setWalk (h : WalkSound s) {w : WalkSeq} (k : WalkChange s w) : WalkSound (s.setWalk w) := by
  obtain ⟨agrees, queue, outside, history, lock, page⟩ := h
  cases k with
  | counted n => exact ⟨agrees, queue, outside, history, lock, page⟩
  | emptied =>
    have sooner (session : ({ s.walk with queue := [] } : WalkSeq).session = true) : s.walk.session = true :=
      (WalkSeq.session_iff _).mpr (.inl (((WalkSeq.session_iff _).mp session).resolve_right (· rfl)))
    exact ⟨agrees, Nat.zero_le _, fun _ => rfl, history, fun s => lock (sooner s), fun s => page (sooner s)⟩
  | queued r angle run valid room =>
    refine ⟨agrees, ?_, fun halted => absurd run halted, history, fun _ => ?_, fun _ => valid⟩
    · rw [State.setWalk_walk, List.length_append]
      exact room
    · dsimp only [State.setWalk_walk]
      split
      · rename_i session; exact lock session
      · exact nofun
  | prepared r rest idle front =>
    have session : s.walk.session = true := (WalkSeq.session_iff _).mpr (.inr (by simp [front]))
    refine ⟨⟨_, rfl, rfl, rfl, rfl⟩, ?_, fun halted => ?_, history, fun _ => lock session, fun _ => page session⟩
    · rw [front] at queue
      exact (Nat.le_succ _).trans queue
    · have := outside halted
      rw [front] at this
      cases this
  | started c ph prep current =>
    have session : s.walk.session = true := (WalkSeq.session_iff _).mpr (.inl (by simp [prep]))
    rw [prep, current] at agrees
    obtain ⟨_, ⟨⟩, -, -, cause⟩ := agrees
    exact ⟨⟨_, ph, rfl, rfl, nofun, cause⟩, queue, outside, history, fun _ => lock session, fun _ => page session⟩
  | followed c ph moves current goes =>
    refine ⟨?_, queue, outside, history, lock, page⟩
    dsimp only [State.setWalk_walk]
    obtain state | state := moves
    · rw [state, current] at agrees
      obtain ⟨_, _, ⟨⟩, -, started, cause⟩ := agrees
      obtain ⟨phase, start, kept⟩ := c.enterPhase_kept ph s.now started
      rw [state]
      exact ⟨_, ph, rfl, phase, start, kept.trans cause⟩
    · rw [state, current] at agrees
      obtain ⟨_, ⟨⟩, -, started, cause⟩ := agrees
      obtain ⟨phase, start, kept⟩ := c.enterPhase_kept ph s.now started
      rw [state] at goes ⊢
      have up := sampleEnds_setdown goes
      exact ⟨_, rfl, by simpa [phase] using up, start, kept ▸ cause⟩
  | ended c q result current hq =>
    obtain ⟨idle, none⟩ := stepAgrees_endStep (w := { s.walk with current := c }) s.now result
      fun hc => stepAgrees_none agrees (current hc)
    have history := WalkSeq.endStep_history { s.walk with current := c } s.now result history
    have lockAngle : ({ s.walk with current := c }.endStep s.now result).lockAngle = s.walk.lockAngle := by
      simp only [WalkSeq.endStep]
      split <;> rfl
    have sooner : ({ { s.walk with current := c }.endStep s.now result with queue := q } : WalkSeq).session = true →
        s.walk.session = true := by
      rw [WalkSeq.session_iff, WalkSeq.session_iff]
      rintro (busy | queued)
      · exact absurd idle busy
      · exact .inr (hq.elim (· ▸ queued) (fun empty => absurd empty queued))
    refine ⟨?_, ?_, ?_, history, fun session => ?_, fun session => page (sooner session)⟩
    · dsimp only [State.setWalk_walk]
      rw [idle, none]
      rfl
    · obtain rfl | rfl := hq
      · exact queue
      · exact Nat.zero_le _
    · intro halted
      obtain rfl | rfl := hq
      · exact outside halted
      · rfl
    · dsimp only [State.setWalk_walk]
      rw [lockAngle]
      exact lock (sooner session)
  | setDown cause step phase =>
    have session : s.walk.session = true := (WalkSeq.session_iff _).mpr (.inl (by simp [step]))
    rw [step] at agrees
    obtain ⟨c, _, current, -, started, -⟩ := agrees
    have same : s.walk.phase = c.phase := by rw [WalkSeq.phase, current]; rfl
    rw [same] at phase
    refine ⟨⟨{ c with cause := some cause }, ?_, phase, started, nofun⟩, Nat.zero_le _, fun _ => rfl, history,
      fun _ => lock session, fun _ => page session⟩
    simp [WalkSeq.setDown, current]

/-- HALT entry keeps it, whatever mode it leaves: the queue is empty then (R136). -/
theorem haltEntry (h : WalkSound s) (walk : t.walk = s.walk.haltEntry s.now)
    (valid : t.pageValid .walk = s.pageValid .walk) : WalkSound t := by
  obtain ⟨agrees, queue, -, history, lock, page⟩ := h.setWalk (.haltEntry s)
  rw [State.setWalk_walk, ← walk] at agrees queue history lock page
  exact ⟨agrees, queue, fun _ => by rw [walk, WalkSeq.haltEntry_queue], history, lock, fun session => valid ▸ page session⟩

theorem evaluate (h : WalkSound s) (i : AlarmId) (b : Bool) : WalkSound (s.evaluate i b) := by
  have valid := State.pageValid_of_store (State.evaluate_store s i b) .walk
  have walk := State.evaluate_walk s i b
  by_cases same : (s.evaluate i b).mode = s.mode
  · rw [if_pos same] at walk
    exact h.of_eq walk same valid
  · rw [if_neg same] at walk
    exact h.haltEntry walk valid

theorem withWalk_of_setWalk {w : WalkSeq} (changed : WalkSound (s.setWalk w)) : WalkSound (s.withWalk w) := by
  simp only [State.withWalk]
  split
  · exact changed.evaluate _ _
  · exact changed

theorem withWalk (h : WalkSound s) {w : WalkSeq} (k : WalkChange s w) : WalkSound (s.withWalk w) :=
  withWalk_of_setWalk (h.setWalk k)

theorem walkAxisLost (h : WalkSound s) : WalkSound s.walkAxisLost := by
  simp only [State.walkAxisLost]
  split
  · exact h.withWalk (.endsEmptied s .faulted)
  · exact h.withWalk (.endsEmptied s .faulted)
  · exact h
  · exact h

/-- After the loss of the WALK page no session is active (R138). -/
theorem walkPageLost (h : WalkSound s) (walk : t.walk = s.walk) (now : t.now = s.now) : WalkSound t.walkPageLost := by
  have ended := h.setWalk (.endsEmptied s .faulted)
  obtain ⟨idle, -⟩ := stepAgrees_endStep s.now .faulted (stepAgrees_none h.agrees)
  refine withWalk_of_setWalk (ended.of_no_session (by rw [walk, now]; rfl) ?_)
  rw [State.setWalk_walk, WalkSeq.session, idle]
  rfl

theorem setPageState (h : WalkSound s) (id : PageId) (st : PageState) : WalkSound (s.setPageState id st) := by
  have stored (k : id = .walk → st = .valid ∨ (s.page .walk).state ≠ .valid) : WalkSound (s.pageStored id st) := by
    by_cases other : id = .walk
    · subst other
      cases session : s.walk.session with
      | false => exact h.of_no_session rfl session
      | true =>
        have valid := h.page session
        have old : (s.page .walk).state = .valid := by simpa [State.pageValid] using valid
        refine h.of_eq rfl rfl (valid.symm ▸ ?_)
        simpa [State.pageValid] using (k rfl).resolve_right (· old)
    · refine h.of_eq rfl rfl ?_
      rw [State.pageValid, State.pageValid, State.pageStored_page_ne s st (Ne.symm other)]
  obtain ⟨old, new, e⟩ | ⟨-, new, e⟩ | ⟨iff, e⟩ := s.setPageState_cases id st
  · rw [e]
    obtain ⟨rfl, e | e⟩ | ⟨rfl, e⟩ | ⟨e, -, other, -⟩ | ⟨n, rfl, -, e⟩ := (s.pageStored id st).pageLost_cases id
    · rw [e]; exact (stored nofun).of_eq rfl rfl rfl
    · rw [e]; exact WalkSound.walkAxisLost ((stored nofun).of_eq rfl rfl rfl)
    · rw [e]; exact h.walkPageLost rfl rfl
    · rw [e]; exact stored fun walk => absurd walk other
    · rw [e]; exact (stored nofun).of_eq rfl rfl rfl
  · rw [e, State.pageGained_frame]
    exact (stored fun _ => .inl new).of_eq rfl rfl rfl
  · refine e ▸ stored ?_
    rintro rfl
    by_cases new : st = .valid
    · exact .inl new
    · exact .inr fun old => new (iff.mp old)

theorem wordsStored (h : WalkSound s) (id : PageId) (off : Nat) (data : List Word) :
    WalkSound (s.wordsStored id off data) := by
  refine h.of_eq rfl rfl ?_
  cases id <;> rfl

theorem settle (h : WalkSound s) : WalkSound s.settle :=
  h.of_eq (by simp) (by simp) (State.pageValid_of_store (State.settle_store s) _)

theorem enterRun (h : WalkSound s) : WalkSound s.enterRun :=
  ⟨h.agrees, h.queue, fun halted => absurd rfl halted, h.history, h.lock, h.page⟩

theorem changes {c : Instr} (h : WalkSound s) (k : Changes c s t) : WalkSound t := by
  induction k with
  | refl => exact h
  | tail _ k ih =>
    cases k with
    | settles => exact ih.settle
    | evaluate i b => exact ih.evaluate i b
    | walk w k => exact ih.withWalk k
    | acknowledged e =>
      refine ih.of_eq ?_ (State.ackEntry_mode _ e) ?_
      · rw [State.ackEntry_frame]; rfl
      · rw [State.ackEntry_frame]; rfl
    | halts =>
      simp only [State.enterHalt]
      split
      · refine ih.haltEntry ?_ ?_
        · rw [State.haltEntry_frame]; rfl
        · rw [State.haltEntry_frame]; rfl
      · exact ih
    | goes => exact ih.enterRun.of_eq rfl rfl rfl
    | resumes => exact ih.enterRun
    | writes id off data => exact (ih.wordsStored id off data).setPageState id .written
    | validates id => exact (ih.setPageState id .validating).of_eq rfl rfl rfl
    | validated v st => exact (ih.setPageState v.page st).of_eq rfl rfl rfl
    | fails id => exact ih.setPageState id .failed
    | store x k => cases k <;> exact ih.of_eq rfl rfl rfl
    | _ => exact ih.of_eq rfl rfl rfl

theorem ran {c : Instr} (h : WalkSound s) (k : Ran c s t) : WalkSound t := by
  cases k with
  | settled u _ k => exact (h.changes k).settle
  | quiet _ _ k => exact h.changes k
  | resumed u _ k =>
    have resumed : WalkSound s.resumed := by
      simp only [State.resumed]
      split <;> exact h.of_eq rfl rfl rfl
    exact (resumed.changes k).settle
  | assembled =>
    simp only [State.placeRef]
    repeat' split
    all_goals exact h.of_eq rfl rfl rfl
  | restarts => exact ⟨rfl, Nat.zero_le _, fun _ => rfl, h.history, nofun, nofun⟩
  | resets => exact ⟨rfl, Nat.zero_le _, fun _ => rfl, Nat.zero_le _, nofun, nofun⟩
  | resetEnds => exact ⟨rfl, Nat.zero_le _, fun _ => rfl, Nat.zero_le _, nofun, nofun⟩
  | _ => exact h.of_eq rfl rfl rfl

end WalkSound

end Sys2Proof.Machine

open Sys2Proof Sys2Proof.Machine

/-- Settles O7: every change of the Walk Sequencer keeps the agreement (`WalkSound.setWalk`), HALT entry with an empty
queue (`WalkSound.haltEntry`), and the loss of the WALK page ends the session (`WalkSound.walkPageLost`). -/
theorem walkSoundKept : Obligations.WalkSoundKept :=
  step_keeps (fun _ _ h => h.of_eq rfl rfl rfl) fun _ _ _ h k => h.ran k

end

section
/-! PROOFS. The queues stay within their capacity, and nothing of the part's own waits beside a free slot (R9, R14 to
R16, R179). -/

namespace Sys2Proof.Machine

/-- Whether a frame of a transmit queue is an outgoing REF (R14). -/
abbrev TxFrame.isRef (x : TxFrame) : Bool := decide (x.origin = .reference)

theorem State.enterHalt_links (s : State) : s.enterHalt.links = s.links := by rw [State.enterHalt_frame]; rfl
theorem State.ackEntry_links (s : State) (e : Entry) : (s.ackEntry e).1.links = s.links := by
  rw [State.ackEntry_frame]; rfl
theorem State.setPageState_links (s : State) (id : PageId) (st : PageState) :
    (s.setPageState id st).links = s.links := by rw [State.setPageState_frame]
theorem State.setPageState_mgmt (s : State) (id : PageId) (st : PageState) :
    (s.setPageState id st).mgmt = s.mgmt := by rw [State.setPageState_frame]
theorem State.withWalk_mgmt (s : State) (w : WalkSeq) : (s.withWalk w).mgmt = s.mgmt := by
  rw [State.withWalk_frame]; rfl

/-- The outgoing REF stands in the D-port transmit queue alone of its kind, where at most one waited before (R14). -/
structure RefPlaced (q q' : List TxFrame) (item : TxFrame) : Prop where
  length : q.length ≤ 4 → q'.length ≤ 4
  oneRef : (q.filter TxFrame.isRef).length ≤ 1 → (q'.filter TxFrame.isRef).length ≤ 1
  mem    : ∀ x ∈ q', x ∈ q ∨ x = item

/-! The three cases of R14. -/

theorem State.placeRef_replaces {s : State} (f : Frame) (waits : s.links.d.txQueue.any TxFrame.isRef = true) :
    s.placeRef f = s.setLinks { s.links with
      d := { s.links.d with
        txQueue := s.links.d.txQueue.map fun x => if x.isRef then ⟨f, .reference⟩ else x }
      superseded := bump s.links.superseded } := if_pos waits

theorem State.placeRef_joins {s : State} (f : Frame) (waits : ¬s.links.d.txQueue.any TxFrame.isRef = true)
    (room : s.links.d.txQueue.length < 4) :
    s.placeRef f = s.setLinks { s.links with
      d := { s.links.d with txQueue := ⟨f, .reference⟩ :: s.links.d.txQueue } } :=
  (if_neg waits).trans (if_pos room)

theorem State.placeRef_displaces {s : State} (f : Frame) (waits : ¬s.links.d.txQueue.any TxFrame.isRef = true)
    (full : ¬s.links.d.txQueue.length < 4) :
    s.placeRef f = s.setLinks { s.links with
      d := { s.links.d with
        txQueue := ⟨f, .reference⟩ :: s.links.d.txQueue.dropLast
        counters := { s.links.d.counters with txDrops := bump s.links.d.counters.txDrops } } } :=
  (if_neg waits).trans (if_neg full)

/-- What ASSEMBLY does at the links: the D-port's transmit queue takes the REF, beside counters (R14). -/
theorem State.placeRef_links (s : State) (f : Frame) :
    ∃ q' k n, RefPlaced s.links.d.txQueue q' ⟨f, .reference⟩
      ∧ s.placeRef f = s.setLinks { s.links with d := { s.links.d with txQueue := q', counters := k }, superseded := n } := by
  by_cases waits : s.links.d.txQueue.any TxFrame.isRef = true
  · refine ⟨_, _, _, ⟨fun h => ?_, fun h => ?_, fun x hx => ?_⟩, State.placeRef_replaces f waits⟩
    · rwa [List.length_map]
    · have same : TxFrame.isRef ∘ (fun x : TxFrame => if x.isRef then ⟨f, .reference⟩ else x) = TxFrame.isRef := by
        funext x
        by_cases hx : x.isRef = true
        · simp only [Function.comp, hx]
          rfl
        · simp only [Function.comp, if_neg hx]
      rwa [List.filter_map, List.length_map, same]
    · obtain ⟨y, hy, rfl⟩ := List.mem_map.mp hx
      split
      · exact .inr rfl
      · exact .inl hy
  · have none : s.links.d.txQueue.filter TxFrame.isRef = [] := by
      simpa [List.filter_eq_nil_iff] using waits
    by_cases room : s.links.d.txQueue.length < 4
    · refine ⟨_, _, _, ⟨fun _ => ?_, fun _ => ?_, fun x hx => ?_⟩, State.placeRef_joins f waits room⟩
      · exact room
      · rw [List.filter_cons_of_pos (by rfl), none]
        rfl
      · exact (List.mem_cons.mp hx).symm
    · refine ⟨_, _, _, ⟨fun h => ?_, fun _ => ?_, fun x hx => ?_⟩, State.placeRef_displaces f waits room⟩
      · rw [List.length_cons, List.length_dropLast]
        omega
      · have dropped : s.links.d.txQueue.dropLast.filter TxFrame.isRef = [] :=
          List.sublist_nil.mp (none ▸ (List.dropLast_sublist _).filter _)
        rw [List.filter_cons_of_pos (by rfl), dropped]
        rfl
      · exact (List.mem_cons.mp hx).symm.imp_left List.mem_of_mem_dropLast

/-- The transmitter's move takes nothing into the queue (R13). -/
theorem LinkPort.takeHead_cases (x : LinkPort) :
    x.takeHead = x
      ∨ ∃ f rest, x.tx = none ∧ x.txQueue = f :: rest ∧ x.takeHead = { x with tx := some ⟨f, false⟩, txQueue := rest } := by
  simp only [LinkPort.takeHead]
  split
  · rename_i f rest tx queue; exact .inr ⟨f, rest, tx, queue, rfl⟩
  · exact .inl rfl

/-- Capacities and the single REF, of one port. -/
structure PortBounded (p : Port) (x : LinkPort) : Prop where
  rx     : x.rxQueue.length ≤ rxCapacity p
  tx     : x.txQueue.length ≤ txCapacity p
  oneRef : p = .d → (x.txQueue.filter TxFrame.isRef).length ≤ 1

theorem queuesBounded_iff (s : State) :
    QueuesBounded s ↔ (∀ p, PortBounded p (s.port p)) ∧ s.mgmt.queue.length ≤ 4 := by
  constructor
  · rintro ⟨rxU, rxD, txU, txD, oneRef, requests⟩
    refine ⟨fun p => ?_, requests⟩
    cases p with
    | u => exact ⟨rxU, txU, nofun⟩
    | d => exact ⟨rxD, txD, fun _ => oneRef⟩
  · rintro ⟨ports, requests⟩
    exact ⟨(ports .u).rx, (ports .d).rx, (ports .u).tx, (ports .d).tx, (ports .d).oneRef rfl, requests⟩

theorem PortChange.bounded {s : State} {p : Port} {x : LinkPort} (k : PortChange s p x) (h : PortBounded p (s.port p)) :
    PortBounded p x := by
  obtain ⟨rx, tx, oneRef⟩ := h
  cases k with
  | receiver => exact ⟨rx, tx, oneRef⟩
  | enqueue f room => exact ⟨by simpa using room, tx, oneRef⟩
  | dequeue f rest front =>
    rw [front] at rx
    exact ⟨(Nat.le_succ _).trans rx, tx, oneRef⟩
  | forward f room =>
    refine ⟨rx, by simpa using room, fun hp => ?_⟩
    rw [List.filter_append]
    simpa using oneRef hp
  | send sent =>
    obtain e | ⟨f, rest, -, queue, e⟩ := LinkPort.takeHead_cases { s.port p with tx := none }
    · rw [e]
      exact ⟨rx, tx, oneRef⟩
    · have shorter : rest.Sublist (s.port p).txQueue := by
        rw [show (s.port p).txQueue = f :: rest from queue]
        exact List.sublist_cons_self ..
      rw [e]
      exact ⟨rx, shorter.length_le.trans tx, fun hp => (shorter.filter _).length_le.trans (oneRef hp)⟩

namespace QueuesBounded

variable {s t : State}

theorem of_eq (h : QueuesBounded s) (links : t.links = s.links) (queue : t.mgmt.queue = s.mgmt.queue) :
    QueuesBounded t := by
  obtain ⟨rxU, rxD, txU, txD, oneRef, requests⟩ := h
  rw [← links] at rxU rxD txU txD oneRef
  rw [← queue] at requests
  exact ⟨rxU, rxD, txU, txD, oneRef, requests⟩

theorem setPort (h : QueuesBounded s) {p : Port} {x : LinkPort} (bounded : PortBounded p x) :
    QueuesBounded (s.setPort p x) := by
  obtain ⟨ports, requests⟩ := (queuesBounded_iff s).mp h
  refine (queuesBounded_iff _).mpr ⟨fun q => ?_, requests⟩
  by_cases same : q = p
  · subst same
    rw [State.port_setPort]
    exact bounded
  · rw [State.port_setPort_ne _ _ same]
    exact ports q

theorem settle (h : QueuesBounded s) : QueuesBounded s.settle := by
  have frame := (State.settle_frame s).1
  have bound := (State.arbitrate_frame (Config.txCapacityU - (s.port .u).txQueue.length) s).2.2
  have capacity : Config.txCapacityU = 8 := rfl
  have queue : (s.port .u).txQueue = s.links.u.txQueue := rfl
  have up : s.settle.links.u.txQueue.length ≤ 8 := by
    have := h.txU
    rw [queue, capacity] at bound
    exact (bound.trans (by omega) : (State.arbitrate _ s).links.u.txQueue.length ≤ 8)
  refine ⟨?_, ?_, up, ?_, ?_, ?_⟩
  · rw [frame]; exact h.rxU
  · rw [frame]; exact h.rxD
  · rw [frame]; exact h.txD
  · rw [frame]; exact h.oneRef
  · rw [frame]; exact h.requests

theorem changes {c : Instr} (h : QueuesBounded s) (k : Changes c s t) : QueuesBounded t := by
  have paged {u : State} (hu : QueuesBounded u) (id : PageId) (st : PageState) : QueuesBounded (u.setPageState id st) :=
    hu.of_eq (State.setPageState_links ..) (by rw [State.setPageState_mgmt])
  induction k with
  | refl => exact h
  | tail _ k ih =>
    cases k with
    | settles => exact ih.settle
    | port p x k => exact ih.setPort (k.bounded (((queuesBounded_iff _).mp ih).1 p))
    | evaluate i b => exact ih.of_eq (by simp) (by simp)
    | walk w => exact ih.of_eq (by simp) (by rw [State.withWalk_mgmt])
    | acknowledged e => exact ih.of_eq (State.ackEntry_links _ e) (by simp)
    | halts => exact ih.of_eq (State.enterHalt_links _) (by simp)
    | writes id off data =>
      have stored {u : State} (hu : QueuesBounded u) : QueuesBounded (u.wordsStored id off data) := hu.of_eq rfl rfl
      exact paged (stored ih) id .written
    | validates id => exact (paged ih id .validating).of_eq rfl rfl
    | validated v st => exact (paged ih v.page st).of_eq rfl rfl
    | fails id => exact paged ih id .failed
    | mgmt m k =>
      obtain ⟨rxU, rxD, txU, txD, oneRef, requests⟩ := ih
      refine ⟨rxU, rxD, txU, txD, oneRef, ?_⟩
      cases k with
      | offered f room => exact (List.length_append ..).trans_le room
      | taken => exact ((List.tail_sublist _).length_le).trans requests
      | _ => exact requests
    | superseded => exact ⟨ih.rxU, ih.rxD, ih.txU, ih.txD, ih.oneRef, ih.requests⟩
    | refLeaves => exact ⟨ih.rxU, ih.rxD, ih.txU, ih.txD, ih.oneRef, ih.requests⟩
    | refTaken => exact ⟨ih.rxU, ih.rxD, ih.txU, ih.txD, ih.oneRef, ih.requests⟩
    | watchdogExpires => exact ⟨ih.rxU, ih.rxD, ih.txU, ih.txD, ih.oneRef, ih.requests⟩
    | _ => exact ih.of_eq rfl rfl

theorem fresh (links : ∀ p, (t.port p).rxQueue = [] ∧ (t.port p).txQueue = []) (queue : t.mgmt.queue.length ≤ 4) :
    QueuesBounded t := by
  refine (queuesBounded_iff t).mpr ⟨fun p => ?_, queue⟩
  obtain ⟨rx, tx⟩ := links p
  exact ⟨by simp [rx], by simp [tx], by simp [tx]⟩

theorem ran {c : Instr} (h : QueuesBounded s) (k : Ran c s t) : QueuesBounded t := by
  cases k with
  | settled u _ k => exact (h.changes k).settle
  | quiet _ _ k => exact h.changes k
  | byte p rx => exact h.setPort (PortChange.bounded (.receiver p rx _ _) (((queuesBounded_iff s).mp h).1 p))
  | held p rx l =>
    have received := h.setPort (PortChange.bounded (.receiver p rx (s.port p).counters (s.port p).consecBad)
      (((queuesBounded_iff s).mp h).1 p))
    exact ⟨received.rxU, received.rxD, received.txU, received.txD, received.oneRef, received.requests⟩
  | resumed u _ k =>
    have resumed : QueuesBounded s.resumed := by
      simp only [State.resumed]
      split <;> exact ⟨h.rxU, h.rxD, h.txU, h.txD, h.oneRef, h.requests⟩
    exact (resumed.changes k).settle
  | assembled op =>
    obtain ⟨q', k, n, placed, e⟩ := s.placeRef_links (composeFrame kindRef 0 (s.refWords op))
    rw [e]
    exact ⟨h.rxU, h.rxD, h.txU, placed.length h.txD, placed.oneRef h.oneRef, h.requests⟩
  | restarts => exact fresh (fun p => by cases p <;> exact ⟨rfl, rfl⟩) h.requests
  | resets => exact fresh (fun p => by cases p <;> exact ⟨rfl, rfl⟩) (Nat.zero_le _)
  | resetEnds => exact fresh (fun p => by cases p <;> exact ⟨rfl, rfl⟩) (Nat.zero_le _)
  | clock running cut =>
    cases cut
    · exact h.of_eq rfl rfl
    · exact ⟨h.rxU, h.rxD, h.txU, h.txD, h.oneRef, h.requests⟩
  | _ => exact h.of_eq rfl rfl

end QueuesBounded

/-! ### Nothing of the part's own waits beside a free slot (R15) -/

namespace NothingOwnWaits

variable {s t : State}

theorem of_settle (s : State) : NothingOwnWaits s.settle := by
  intro _ room
  obtain small | big := le_or_gt s.links.u.txQueue.length 8
  · exact (State.settle_done s small).resolve_left room.ne
  · exact absurd (room.trans big) (not_lt.mpr (State.settle_frame s).2.length_le)

theorem of_eq (h : NothingOwnWaits s) (working : t.phase = .working → s.phase = .working)
    (queue : t.links.u.txQueue = s.links.u.txQueue) (alarm : t.alarm = s.alarm)
    (unit : ∀ words restart, t.mgmt.unit = .replying words restart → s.mgmt.unit = .replying words restart) :
    NothingOwnWaits t := by
  intro hw room
  rw [queue] at room
  obtain ⟨reports, reply⟩ := h (working hw) room
  refine ⟨fun i => ?_, fun words restart e => reply words restart (unit words restart e)⟩
  rw [State.status, alarm]
  exact reports i

theorem ran {c : Instr} (h : NothingOwnWaits s) (k : Ran c s t) : NothingOwnWaits t := by
  cases k with
  | idle => exact h
  | settled => exact of_settle _
  | resumed => exact of_settle _
  | quiet _ working _ _ alarm unit _ _ up => exact h.of_eq (fun _ => working) up alarm fun _ _ e => unit ▸ e
  | byte p rx => exact h.of_eq id (by cases p <;> rfl) rfl fun _ _ => id
  | held p rx l apart => exact fun working => absurd working apart
  | assembled op =>
    obtain ⟨q', k, n, -, e⟩ := s.placeRef_links (composeFrame kindRef 0 (s.refWords op))
    rw [e]
    exact h.of_eq id rfl rfl fun _ _ => id
  | restarts => exact nofun
  | ticks working =>
    refine h.of_eq (fun _ => working) rfl rfl fun words restart e => ?_
    have e : s.validationAdvance = .replying words restart := e
    simp only [State.validationAdvance] at e
    split at e <;> simp_all
  | ticksRestarting => exact nofun
  | clock running cut => cases cut <;> exact h.of_eq id rfl rfl fun _ _ => id
  | off => exact nofun
  | resets => exact nofun
  | resetEnds => exact fun _ _ => ⟨fun i => by simp [State.status, State.afterReset, AlarmUnit.fresh, AlarmStatus.fresh], nofun⟩

end NothingOwnWaits

end Sys2Proof.Machine

open Sys2Proof Sys2Proof.Machine

/-- Settles O8: a frame enters a queue only where it has room, or in another's place (`PortChange.bounded`, `RefPlaced`);
every event that can leave something of the part's own waiting ends with the arbiter (`NothingOwnWaits.of_settle`). -/
theorem queuesSoundKept : Obligations.QueuesSoundKept :=
  ⟨step_keeps (fun _ _ h => h.of_eq rfl rfl) fun _ _ _ h k => h.ran k,
    step_keeps (fun _ _ h => h.of_eq id rfl rfl fun _ _ => id) fun _ _ _ h k => NothingOwnWaits.ran h k⟩

end

section
/-! PROOFS. Every outgoing REF is safe: clamp, derate and slew only shorten a command, and each stage keeps the operation
in progress safe (R72, R73, R88, R92, R95 to R97, R101, R113, R115, R116). -/

namespace Sys2Proof.Machine

/-! ### Clamp and derate (R92, R95) -/

theorem follows.trans {a b c : Int} (h : follows a b) (k : follows b c) : follows a c := by
  refine ⟨?_, h.2.trans k.2⟩
  obtain zero | sign := h.1
  · exact .inl zero
  · obtain rfl | sign' := k.1
    · exact .inl (Int.sign_eq_zero_iff_zero.mp sign)
    · exact .inr (sign.trans sign')

theorem follows.eq_zero {a : Int} (h : follows a 0) : a = 0 := Int.natAbs_eq_zero.mp (Nat.le_zero.mp h.2)

theorem follows.nonpos {a b : Int} (h : follows a b) (hb : b ≤ 0) : a ≤ 0 := by
  obtain rfl | sign := h.1
  · exact le_rfl
  · by_contra pos
    rw [Int.sign_eq_one_of_pos (not_le.mp pos)] at sign
    exact absurd (Int.pos_of_sign_eq_one sign.symm) (not_lt.mpr hb)

theorem follows.refl (a : Int) : follows a a := ⟨.inr rfl, le_rfl⟩

/-- The clamp keeps the command's sign or gives 0, and its magnitude is the lesser of the command's and the limit for
its direction. -/
theorem clampTo_natAbs (c : Int) (i o : Nat) : (clampTo c i o).natAbs = min c.natAbs (if 0 < c then i else o) := by
  simp only [clampTo]
  split
  · omega
  · split <;> omega

theorem clampTo_follows (c : Int) (i o : Nat) : follows (clampTo c i o) c := by
  refine ⟨?_, clampTo_natAbs c i o ▸ min_le_left _ _⟩
  obtain neg | rfl | pos := lt_trichotomy c 0
  · rw [Int.sign_eq_neg_one_of_neg neg, Int.sign_eq_neg_one_iff_neg]
    simp only [clampTo, if_neg neg.not_gt, if_pos neg]
    omega
  · exact .inl rfl
  · rw [Int.sign_eq_one_of_pos pos, Int.sign_eq_one_iff_pos]
    simp only [clampTo, if_pos pos]
    omega

theorem derateBy_natAbs (v : Int) (f : Nat) : (derateBy v f).natAbs = v.natAbs * f / 256 := by
  rw [derateBy, Int.natAbs_tdiv, Int.natAbs_mul]
  rfl

theorem derateBy_follows (v : Int) {f : Nat} (h : f ≤ 256) : follows (derateBy v f) v := by
  constructor
  · obtain neg | rfl | pos := lt_trichotomy v 0
    · have le : derateBy v f ≤ 0 := by
        have down : v * f ≤ 0 := Int.mul_nonpos_of_nonpos_of_nonneg neg.le (Int.natCast_nonneg f)
        rw [derateBy, ← neg_neg (v * f), Int.neg_tdiv]
        exact neg_nonpos.mpr (Int.tdiv_nonneg (neg_nonneg.mpr down) (by decide))
      obtain zero | lt := le.eq_or_lt
      · exact .inl zero
      · exact .inr (by rw [Int.sign_eq_neg_one_of_neg lt, Int.sign_eq_neg_one_of_neg neg])
    · exact .inl (by rw [derateBy, zero_mul, Int.zero_tdiv])
    · have ge : 0 ≤ derateBy v f := Int.tdiv_nonneg (Int.mul_nonneg pos.le (Int.natCast_nonneg f)) (by decide)
      obtain zero | lt := ge.eq_or_lt
      · exact .inl zero.symm
      · exact .inr (by rw [Int.sign_eq_one_of_pos lt, Int.sign_eq_one_of_pos pos])
  · rw [derateBy_natAbs]
    exact Nat.div_le_of_le_mul (by rw [Nat.mul_comm 256]; exact Nat.mul_le_mul_left _ h)

theorem slewFrom_follows (b v : Int) (n : Nat) : follows (slewFrom b v n) v :=
  ⟨slewFrom_sign b v n, slewFrom_natAbs_le b v n⟩

theorem forceByMode_follows (mode : Mode) (v : Int) : follows (forceByMode mode v) v := by
  simp only [forceByMode]
  split
  · exact .refl v
  · exact follows_zero v

theorem State.ropeSlew_follows (s : State) (b v : Int) (f : Field) : follows (s.ropeSlew b v f) v := by
  simp only [State.ropeSlew]
  split
  · exact slewFrom_follows _ _ _
  · exact follows_zero v

/-! ### The stages -/

theorem State.hoistReference_follows (s : State) {op : Op} (h : op.derate ≤ 256) :
    follows (s.hoistReference op) (s.hoistClamped op) :=
  ((s.ropeSlew_follows _ _ _).trans (forceByMode_follows _ _)).trans (derateBy_follows _ h)

theorem State.dragReference_follows (s : State) {op : Op} (h : op.derate ≤ 256) :
    follows (s.dragReference op) (s.dragClamped op) :=
  ((s.ropeSlew_follows _ _ _).trans (forceByMode_follows _ _)).trans (derateBy_follows _ h)

/-- Out of RUN both rope references are 0 (R96). -/
theorem State.ropeReferences_of_not_run (s : State) {op : Op} (h : op.mode ≠ .run) :
    s.hoistReference op = 0 ∧ s.dragReference op = 0 := by
  have forced (v : Int) : forceByMode op.mode v = 0 := if_neg h
  constructor
  · rw [State.hoistReference, forced]
    exact (s.ropeSlew_follows _ 0 _).eq_zero
  · rw [State.dragReference, forced]
    exact (s.ropeSlew_follows _ 0 _).eq_zero

/-- In a walk session there is no hauling in (R88). -/
theorem State.limits_of_session (s : State) {op : Op} (h : op.session = true) :
    s.limit op .hoistIn = 0 ∧ s.limit op .dragIn = 0 := by
  simp [State.limit, lower, h]

theorem clampTo_nonpos (c : Int) (o : Nat) : clampTo c 0 o ≤ 0 := by
  simp only [clampTo]
  split
  · omega
  · split <;> omega

theorem State.ropeReferences_of_session (s : State) {op : Op} (hd : op.derate ≤ 256) (h : op.session = true) :
    s.hoistReference op ≤ 0 ∧ s.dragReference op ≤ 0 := by
  obtain ⟨hoist, drag⟩ := s.limits_of_session h
  refine ⟨(s.hoistReference_follows hd).nonpos ?_, (s.dragReference_follows hd).nonpos ?_⟩
  · rw [State.hoistClamped, hoist]
    exact clampTo_nonpos _ _
  · rw [State.dragClamped, drag]
    exact clampTo_nonpos _ _

theorem OpSafe.ropeResult {op : Op} (h : OpSafe op) (s : State) : OpSafe (s.ropeResult op) where
  commands := h.commands
  derate := h.derate
  walk := h.walk
  generated := h.generated
  hoist := (s.hoistReference_follows h.derate).trans (clampTo_follows _ _ _)
  drag := (s.dragReference_follows h.derate).trans (clampTo_follows _ _ _)
  swing := h.swing
  mode out := ⟨(s.ropeReferences_of_not_run out).1, (s.ropeReferences_of_not_run out).2, (h.mode out).2.2⟩
  session walking :=
    ⟨(s.ropeReferences_of_session h.derate walking).1, (s.ropeReferences_of_session h.derate walking).2,
      (h.session walking).2.2⟩
  brake := nofun
  held := h.held

theorem State.swingForced_of_session (s : State) {op : Op} (h : op.session = true) : s.swingForced op = true := by
  simp [State.swingForced, h]

theorem State.swingForced_of_not_run (s : State) {op : Op} (h : op.mode ≠ .run) : s.swingForced op = true := by
  simp [State.swingForced, h]

theorem OpSafe.swingResult {op : Op} (h : OpSafe op) (s : State) : OpSafe (s.swingResult op) := by
  simp only [State.swingResult]
  split
  · exact {
      commands := h.commands
      derate := h.derate
      walk := h.walk
      generated := h.generated
      hoist := h.hoist
      drag := h.drag
      swing := follows_zero _
      mode := fun out => ⟨(h.mode out).1, (h.mode out).2.1, rfl⟩
      session := fun walking => ⟨(h.session walking).1, (h.session walking).2.1, rfl⟩
      brake := fun _ _ => rfl
      held := fun _ => rfl }
  · rename_i free
    exact {
      commands := h.commands
      derate := h.derate
      walk := h.walk
      generated := h.generated
      hoist := h.hoist
      drag := h.drag
      swing := ((slewFrom_follows _ _ _).trans (derateBy_follows _ h.derate)).trans (clampTo_follows _ _ _)
      mode := fun out => absurd (s.swingForced_of_not_run out) free
      session := fun walking => absurd (s.swingForced_of_session walking) free
      brake := fun _ walking => absurd (s.swingForced_of_session walking) free
      held := nofun }

/-! ### The outgoing REF (R72, R73) -/

/-- The bits of a number composed from a run of them, least significant first. -/
theorem testBit_foldr (bits : List Bool) (k : Nat) :
    (bits.foldr (fun (b : Bool) (n : Nat) => 2 * n + b.toNat) 0).testBit k = bits.getD k false := by
  induction bits generalizing k with
  | nil => simp
  | cons b bits ih =>
    rw [List.foldr_cons]
    cases k with
    | zero => cases b <;> simp [Nat.testBit_zero]
    | succ k =>
      have half : (2 * bits.foldr (fun (b : Bool) (n : Nat) => 2 * n + b.toNat) 0 + b.toNat) / 2
          = bits.foldr (fun (b : Bool) (n : Nat) => 2 * n + b.toNat) 0 := by cases b <;> simp; omega
      rw [Nat.testBit_succ, half, ih]
      rfl

theorem flagWord_getLsbD {flags : List Bool} {k : Nat} (h : flags.length ≤ 16) :
    (flagWord flags).getLsbD k = flags.getD k false := by
  rw [flagWord, BitVec.getLsbD_ofNat, testBit_foldr]
  by_cases hk : k < 16
  · simp [hk]
  · rw [decide_eq_false hk, Bool.false_and, List.getD_eq_default _ _ (by omega)]

theorem wordOf_toInt {n : Int} (h : n.natAbs ≤ 1000) : (wordOf n).toInt = n := by
  rw [wordOf, BitVec.toInt_ofInt]
  exact Int.bmod_eq_of_le (by omega) (by omega)

theorem OpSafe.refWords {op : Op} (h : OpSafe op) (stage : op.stage = .assembly) (s : State) :
    RefSafe (s.refWords op) := by
  obtain ⟨hc, dc, sc⟩ := h.commands
  have hb := h.hoist.2.trans hc
  have db := h.drag.2.trans dc
  have sb := h.swing.2.trans sc
  have bit (k : Nat) := flagWord_getLsbD (k := k) (flags := [op.swingBrake, decide (op.mode = .loading),
    decide (op.mode = .halt), op.generated, op.hoistLimited, op.dragLimited, op.swingLimited, op.session]) (by simp)
  refine ⟨_, _, _, _, _, _, _, rfl, ?_, ?_, ?_, ?_, ?_, fun still => ?_, fun walking => ?_, fun brake => ?_⟩
  · rwa [wordOf_toInt hb]
  · rwa [wordOf_toInt db]
  · rwa [wordOf_toInt sb]
  · rw [wordOf_toInt h.walk]; exact h.walk
  · rw [wordOfNat, BitVec.toNat_ofNat]
    exact (Nat.mod_le _ _).trans h.derate
  · simp only [governorFlags, bit] at still
    have zero : op.hoistRef = 0 ∧ op.dragRef = 0 ∧ op.swingRef = 0 := by
      obtain loading | halted | generated := still
      · exact h.mode (by simp [of_decide_eq_true loading])
      · exact h.mode (by simp [of_decide_eq_true halted])
      · obtain ⟨hz, dz, sz⟩ := h.generated generated
        exact ⟨(hz ▸ h.hoist).eq_zero, (dz ▸ h.drag).eq_zero, (sz ▸ h.swing).eq_zero⟩
    simp only [zero]
    decide
  · simp only [governorFlags, bit] at walking ⊢
    obtain ⟨hr, dr, sr⟩ := h.session walking
    rw [wordOf_toInt hb, wordOf_toInt db, sr]
    exact ⟨rfl, h.brake stage walking, hr, dr⟩
  · simp only [governorFlags, bit] at brake
    rw [h.held brake]
    rfl

/-! ### The invariant -/

/-- The part of the invariant that a port's frames have to do with. -/
structure RefsSafe (x : LinkPort) : Prop where
  waiting : ∀ f ∈ x.txQueue, f.origin = .reference → RefSafe f.frame.words
  sending : ∀ f, x.tx = some f → f.item.origin = .reference → RefSafe f.item.frame.words

theorem PortChange.refsSafe {s : State} {p : Port} {x : LinkPort} (k : PortChange s p x) (h : RefsSafe (s.port p)) :
    RefsSafe x := by
  obtain ⟨waiting, sending⟩ := h
  cases k with
  | receiver => exact ⟨waiting, sending⟩
  | enqueue => exact ⟨waiting, sending⟩
  | dequeue => exact ⟨waiting, sending⟩
  | forward f =>
    refine ⟨fun y hy isRef => ?_, sending⟩
    obtain hy | hy := List.mem_append.mp hy
    · exact waiting y hy isRef
    · cases List.mem_singleton.mp hy
      cases isRef
  | send =>
    obtain e | ⟨f, rest, -, queue, e⟩ := LinkPort.takeHead_cases { s.port p with tx := none }
    · rw [e]
      exact ⟨waiting, nofun⟩
    · have queue : (s.port p).txQueue = f :: rest := queue
      rw [queue] at waiting
      rw [e]
      refine ⟨fun y hy => waiting y (List.mem_cons_of_mem _ hy), ?_⟩
      rintro _ ⟨⟩
      exact waiting f List.mem_cons_self

namespace ReferencesSafe

variable {s t : State}

theorem refs (h : ReferencesSafe s) : RefsSafe s.links.d := ⟨h.waiting, h.sending⟩

theorem of_eq (h : ReferencesSafe s) (gov : t.gov = s.gov) (down : t.links.d = s.links.d) : ReferencesSafe t := by
  obtain ⟨hoist, drag, swing, walk, op, waiting, sending⟩ := h
  rw [← gov] at hoist drag swing walk op
  rw [← down] at waiting sending
  exact ⟨hoist, drag, swing, walk, op, waiting, sending⟩

theorem setPort_d (h : ReferencesSafe s) {x : LinkPort} (k : RefsSafe x) : ReferencesSafe (s.setPort .d x) :=
  ⟨h.hoist, h.drag, h.swing, h.walk, h.op, k.waiting, k.sending⟩

theorem setGov (h : ReferencesSafe s) {g : Governor} (k : GovChange s g) : ReferencesSafe (s.setGov g) := by
  obtain ⟨hoist, drag, swing, walk, op, waiting, sending⟩ := h
  cases k with
  | expired => exact ⟨hoist, drag, swing, walk, op, waiting, sending⟩
  | generated => exact ⟨hoist, drag, swing, walk, op, waiting, sending⟩
  | starts x edge safe =>
    refine ⟨hoist, drag, swing, walk, ?_, waiting, sending⟩
    rintro _ ⟨⟩
    exact safe
  | ropes x u zone gated current =>
    refine ⟨hoist, drag, swing, walk, ?_, waiting, sending⟩
    rintro _ ⟨⟩
    exact (op x current).ropeResult u
  | swings x u current =>
    refine ⟨hoist, drag, swing, walk, ?_, waiting, sending⟩
    rintro _ ⟨⟩
    exact (op x current).swingResult u

theorem setPageState (h : ReferencesSafe s) (id : PageId) (st : PageState) : ReferencesSafe (s.setPageState id st) :=
  h.of_eq (by rw [State.setPageState_frame]) (by rw [State.setPageState_links])

theorem settle (h : ReferencesSafe s) : ReferencesSafe s.settle := h.of_eq (by simp) (by simp)

theorem changes {c : Instr} (h : ReferencesSafe s) (k : Changes c s t) : ReferencesSafe t := by
  induction k with
  | refl => exact h
  | tail _ k ih =>
    cases k with
    | settles => exact ih.settle
    | port p x k =>
      cases p with
      | u => exact ih.of_eq rfl rfl
      | d => exact ih.setPort_d (k.refsSafe ih.refs)
    | gov g k => exact ih.setGov k
    | evaluate i b => exact ih.of_eq (by simp) (by simp)
    | walk w => exact ih.of_eq (by simp) (by simp)
    | acknowledged e => exact ih.of_eq (by rw [State.ackEntry_frame]; rfl) (by rw [State.ackEntry_links])
    | halts => exact ih.of_eq (by rw [State.enterHalt_frame]; rfl) (by rw [State.enterHalt_links])
    | writes id off data =>
      have stored {u : State} (hu : ReferencesSafe u) : ReferencesSafe (u.wordsStored id off data) := hu.of_eq rfl rfl
      exact (stored ih).setPageState id .written
    | validates id => exact (ih.setPageState id .validating).of_eq rfl rfl
    | validated v st => exact (ih.setPageState v.page st).of_eq rfl rfl
    | fails id => exact ih.setPageState id .failed
    | refTaken f => exact ⟨ih.hoist, ih.drag, ih.swing, ih.walk, ih.op, ih.waiting, ih.sending⟩
    | watchdogExpires => exact ⟨ih.hoist, ih.drag, ih.swing, ih.walk, ih.op, ih.waiting, ih.sending⟩
    | _ => exact ih.of_eq rfl rfl

theorem fresh (gov : t.gov = .fresh) (queue : t.links.d.txQueue = []) (tx : t.links.d.tx = none) :
    ReferencesSafe t := by
  refine ⟨?_, ?_, ?_, ?_, ?_, ?_, ?_⟩
  all_goals simp [gov, queue, tx, Governor.fresh]

/-- A safe frame placed for the D-port leaves every REF safe. -/
theorem placeRef (h : ReferencesSafe s) {f : Frame} (safe : RefSafe f.words) : ReferencesSafe (s.placeRef f) := by
  obtain ⟨q', k, n, placed, e⟩ := s.placeRef_links f
  rw [e]
  refine ⟨h.hoist, h.drag, h.swing, h.walk, h.op, fun x hx isRef => ?_, h.sending⟩
  obtain old | rfl := placed.mem x hx
  · exact h.waiting x old isRef
  · exact safe

/-- The outgoing REF of a safe operation is safe, and what it carries becomes the baselines (R74). -/
theorem assembled (h : ReferencesSafe s) {op : Op} (current : s.gov.op = some op) (stage : op.stage = .assembly) {f : Frame}
    (words : f.words = s.refWords op) :
    ReferencesSafe ((s.placeRef f).setGov (s.gov.afterAssembly op)) := by
  have safe := h.op op current
  obtain ⟨hc, dc, sc⟩ := safe.commands
  have placed := h.placeRef (f := f) (words ▸ safe.refWords stage s)
  have ended (x : Op) (e : none = some x) : OpSafe x := nomatch e
  exact ⟨safe.hoist.2.trans hc, safe.drag.2.trans dc, safe.swing.2.trans sc, safe.walk, ended, placed.waiting,
    placed.sending⟩

theorem ran {c : Instr} (h : ReferencesSafe s) (k : Ran c s t) : ReferencesSafe t := by
  cases k with
  | settled u _ k => exact (h.changes k).settle
  | quiet _ _ k => exact h.changes k
  | byte p rx => cases p <;> exact ⟨h.hoist, h.drag, h.swing, h.walk, h.op, h.waiting, h.sending⟩
  | held p rx l => cases p <;> exact ⟨h.hoist, h.drag, h.swing, h.walk, h.op, h.waiting, h.sending⟩
  | resumed u _ k =>
    have resumed : ReferencesSafe s.resumed := by
      simp only [State.resumed]
      split <;> exact h.of_eq rfl rfl
    exact (resumed.changes k).settle
  | assembled op _ current stage => exact h.assembled current stage rfl
  | restarts => exact fresh rfl rfl rfl
  | resets => exact fresh rfl rfl rfl
  | resetEnds => exact fresh rfl rfl rfl
  | clock running cut =>
    cases cut with
    | false => exact h.of_eq rfl rfl
    | true =>
      refine ⟨h.hoist, h.drag, h.swing, h.walk, h.op, h.waiting, fun x hx => ?_⟩
      obtain ⟨y, hy, rfl⟩ := Option.map_eq_some_iff.mp hx
      exact h.sending y hy
  | _ => exact h.of_eq rfl rfl

end ReferencesSafe

end Sys2Proof.Machine

open Sys2Proof Sys2Proof.Machine

/-- Settles O9: an operation starts safe (`Changes.startOperation`), its stages keep it so (`OpSafe.ropeResult`,
`OpSafe.swingResult`), and the REF of a safe operation is safe (`OpSafe.refWords`). -/
theorem referencesSafeKept : Obligations.ReferencesSafeKept :=
  step_keeps (fun _ _ h => h.of_eq rfl rfl) fun _ _ _ h k => h.ran k

end

section
/-! PROOFS. The Table Store is sound: the pages' contents, the pending profile and the idle scan (R36, R42, R55, R57). -/

namespace Sys2Proof.Machine

/-! ### Going to and from LOADING -/

theorem State.evaluate_loading (s : State) (i : AlarmId) (b : Bool) :
    (s.evaluate i b).mode = .loading ↔ s.mode = .loading := by
  obtain same | ⟨run, halt⟩ := s.evaluate_mode i b
  · rw [same]
  · simp [run, halt]

theorem State.withWalk_loading (s : State) (w : WalkSeq) : (s.withWalk w).mode = .loading ↔ s.mode = .loading := by
  simp only [State.withWalk]
  split
  · exact State.evaluate_loading _ _ _
  · rfl

theorem State.walkAxisLost_loading (s : State) : s.walkAxisLost.mode = .loading ↔ s.mode = .loading := by
  simp only [State.walkAxisLost]
  split
  · exact s.withWalk_loading _
  · exact s.withWalk_loading _
  · rfl
  · rfl

theorem State.setPageState_loading (s : State) (id : PageId) (st : PageState) :
    (s.setPageState id st).mode = .loading ↔ s.mode = .loading :=
  State.setPageState_keeps (P := fun u => u.mode = .loading ↔ s.mode = .loading) id st Iff.rfl (fun _ _ h => h)
    (fun _ _ h => h) fun u w h => (u.withWalk_loading w).trans h

theorem State.enterHalt_loading (s : State) : s.enterHalt.mode = .loading ↔ s.mode = .loading := by
  simp only [State.enterHalt]
  split
  · rename_i run
    rw [State.haltEntry_mode (s := s.setAlarm { s.alarm with mode := .halt }) rfl]
    simp [run]
  · rfl

/-! ### The invariant -/

/-- After a power-on or pin reset every page is blank (R60). -/
theorem State.page_blank {t : State} (store : t.store = State.reset.store) (id : PageId) : t.page id = Page.blank := by
  rw [State.page, store]
  cases id with
  | config => rfl
  | alarm => rfl
  | walk => rfl
  | profile n => exact Vector.getElem_replicate ..

namespace StoreSound

variable {s t : State}

theorem of_eq (h : StoreSound s) (store : t.store = s.store) (mode : t.mode = .loading ↔ s.mode = .loading) :
    StoreSound t := by
  obtain ⟨form, empty, pending, scan⟩ := h
  have page (id : PageId) : t.page id = s.page id := by rw [State.page, store]; rfl
  refine ⟨fun id => page id ▸ form id, fun id => page id ▸ empty id, fun n waits => ?_, ?_⟩
  · rw [State.pageValid_of_store store, store]
    exact pending n (store ▸ waits)
  · rw [store, scan, mode]

/-- The contents, in form, stay within their page, and the page that has gone to `st` is not EMPTY. -/
theorem pageStored_contents {id : PageId} {st : PageState} (written : st ≠ .empty)
    (form : ∀ j, Memory.wf (s.page j).words ∧ ∀ c ∈ (s.page j).words, c.1 < j.size)
    (empty : ∀ j, j ≠ id → (s.page j).state = .empty → (s.page j).words = []) (j : PageId) :
    (Memory.wf ((s.pageStored id st).page j).words ∧ ∀ c ∈ ((s.pageStored id st).page j).words, c.1 < j.size)
      ∧ (((s.pageStored id st).page j).state = .empty → ((s.pageStored id st).page j).words = []) := by
  by_cases same : j = id
  · subst same
    rw [State.pageStored_page]
    exact ⟨form j, fun none => absurd none written⟩
  · rw [State.pageStored_page_ne s st same]
    exact ⟨form j, empty j same⟩

/-- A page goes to a state other than EMPTY: a pending switch to it is cancelled where it leaves VALID (R50, R55). -/
theorem setPageState_of {id : PageId} {st : PageState} (written : st ≠ .empty)
    (form : ∀ j, Memory.wf (s.page j).words ∧ ∀ c ∈ (s.page j).words, c.1 < j.size)
    (empty : ∀ j, j ≠ id → (s.page j).state = .empty → (s.page j).words = [])
    (pending : ∀ n, s.store.pendingProfile = some n → s.pageValid (.profile n) = true ∧ n ≠ s.store.active)
    (scan : s.store.scan = none ↔ s.mode = .loading) : StoreSound (s.setPageState id st) := by
  have contents := pageStored_contents written form empty
  have stored (waits : ∀ n, id = .profile n → s.store.pendingProfile = some n → st = .valid) :
      StoreSound (s.pageStored id st) := by
    refine ⟨fun j => (contents j).1, fun j => (contents j).2, fun n asked => ?_, (s.pageStored_scan id st).trans scan⟩
    rw [State.pageStored_pendingProfile] at asked
    obtain ⟨valid, other⟩ := pending n asked
    refine ⟨?_, by rwa [State.pageStored_active]⟩
    by_cases same : .profile n = id
    · subst same
      simp [State.pageValid, waits n rfl asked]
    · rwa [State.pageValid, State.pageStored_page_ne s st same]
  obtain ⟨old, new, e⟩ | ⟨-, new, e⟩ | ⟨iff, e⟩ := s.setPageState_cases id st
  · rw [e]
    obtain ⟨rfl, e | e⟩ | ⟨rfl, e⟩ | ⟨e, -, -, other⟩ | ⟨n, rfl, -, e⟩ := (s.pageStored id st).pageLost_cases id
    · rw [e]; exact (stored nofun).of_eq rfl .rfl
    · rw [e]
      refine (stored nofun).of_eq ?_ (State.walkAxisLost_loading _)
      rw [State.walkAxisLost_frame]; rfl
    · rw [e, State.walkPageLost]
      exact (stored nofun).of_eq (State.withWalk_store _ _) (State.withWalk_loading _ _)
    · rw [e]
      refine stored fun n profile asked => absurd ?_ (other n profile)
      rwa [State.pageStored_pendingProfile]
    · rw [e]
      exact ⟨fun j => (contents j).1, fun j => (contents j).2, nofun, (s.pageStored_scan _ st).trans scan⟩
  · rw [e, State.pageGained_frame]
    exact (stored fun _ _ _ => new).of_eq rfl .rfl
  · rw [e]
    refine stored fun n profile asked => ?_
    obtain ⟨valid, -⟩ := pending n asked
    subst profile
    exact iff.mp (by simpa [State.pageValid] using valid)

theorem setPageState (h : StoreSound s) (id : PageId) {st : PageState} (written : st ≠ .empty) :
    StoreSound (s.setPageState id st) :=
  setPageState_of written h.form (fun j _ => h.empty j) h.pending h.scan

/-- The words stored lie within the page (R44). -/
theorem writePage (h : StoreSound s) {id : PageId} {off : Nat} {data : List Word} (fits : off + data.length ≤ id.size) :
    StoreSound (s.writePage id off data) := by
  have other (j : PageId) (hj : j ≠ id) : (s.wordsStored id off data).page j = s.page j := Store.page_setPage_ne _ _ hj
  have this : (s.wordsStored id off data).page id
      = { s.page id with words := Memory.writeFrom (s.page id).words off data } := Store.page_setPage _ _ _
  rw [State.writePage_eq]
  refine setPageState_of nofun (fun j => ?_) (fun j hj => ?_) (fun n asked => ?_) ?_
  · by_cases hj : j = id
    · subst hj
      rw [this]
      refine ⟨Memory.wf_writeFrom (h.form j).1 off data, fun c hc => ?_⟩
      obtain old | ⟨-, new⟩ := Memory.mem_writeFrom hc
      · exact (h.form j).2 c old
      · exact new.trans_le fits
    · rw [other j hj]
      exact h.form j
  · rw [other j hj]
    exact h.empty j
  · have same : (s.wordsStored id off data).store.pendingProfile = s.store.pendingProfile
        ∧ (s.wordsStored id off data).store.active = s.store.active := by cases id <;> exact ⟨rfl, rfl⟩
    rw [same.1] at asked
    rw [same.2]
    obtain ⟨valid, apart⟩ := h.pending n asked
    refine ⟨?_, apart⟩
    by_cases hj : .profile n = id
    · rw [← hj] at this ⊢
      rw [State.pageValid, this]
      exact valid
    · rw [State.pageValid, other _ hj]
      exact valid
  · have same : (s.wordsStored id off data).store.scan = s.store.scan := by cases id <;> rfl
    rw [same]
    exact h.scan

theorem setStore (h : StoreSound s) {x : Store} (k : StoreChange s x) : StoreSound (s.setStore x) := by
  obtain ⟨form, empty, pending, scan⟩ := h
  cases k with
  | scan x due idle => exact ⟨form, empty, pending, idle.trans scan⟩
  | pending x offered => exact ⟨form, empty, offered, scan⟩
  | switched n waits => exact ⟨form, empty, nofun, Option.map_eq_none_iff.trans scan⟩

theorem changes {c : Instr} (h : StoreSound s) (k : Changes c s t) : StoreSound t := by
  induction k with
  | refl => exact h
  | tail _ k ih =>
    cases k with
    | settles => exact ih.of_eq (State.settle_store _) (by rw [State.settle_mode])
    | evaluate i b => exact ih.of_eq (State.evaluate_store _ i b) (State.evaluate_loading _ i b)
    | walk w k => exact ih.of_eq (State.withWalk_store _ w) (State.withWalk_loading _ w)
    | store x k => exact ih.setStore k
    | acknowledged e => exact ih.of_eq (by rw [State.ackEntry_frame]; rfl) (by rw [State.ackEntry_mode])
    | halts => exact ih.of_eq (by rw [State.enterHalt_frame]; rfl) (State.enterHalt_loading _)
    | goes => exact ⟨ih.form, ih.empty, ih.pending, iff_of_false nofun nofun⟩
    | resumes _ halted =>
      have busy := mt ih.scan.mp (by simp [halted])
      exact ⟨ih.form, ih.empty, ih.pending, iff_of_false busy nofun⟩
    | writes id off data _ _ fits => exact ih.writePage fits
    | validates id => exact (ih.setPageState id (st := .validating) nofun).of_eq rfl .rfl
    | validated v st words _ outcome =>
      have written : st ≠ .empty := by
        obtain rfl | ⟨rfl, -⟩ := outcome <;> exact nofun
      exact (ih.setPageState v.page written).of_eq rfl .rfl
    | fails id => exact ih.setPageState id nofun
    | _ => exact ih.of_eq rfl .rfl

/-- After a power-on or pin reset every page is EMPTY and the scan idle (R60). -/
theorem blank (store : t.store = State.reset.store) (mode : t.mode = .loading) : StoreSound t := by
  have page := State.page_blank store
  refine ⟨fun id => ?_, fun id _ => ?_, fun n waits => ?_, ?_⟩
  · rw [page]
    exact ⟨Memory.wf_nil, nofun⟩
  · rw [page]; rfl
  · rw [store] at waits
    cases waits
  · rw [store, mode]
    exact iff_of_true rfl rfl

theorem ran {c : Instr} (h : StoreSound s) (k : Ran c s t) : StoreSound t := by
  cases k with
  | settled u _ k => exact (h.changes k).of_eq (State.settle_store _) (by rw [State.settle_mode])
  | quiet _ _ k => exact h.changes k
  | resumed u _ k =>
    have resumed : StoreSound s.resumed := by
      simp only [State.resumed]
      split <;> exact h.of_eq rfl .rfl
    exact (resumed.changes k).of_eq (State.settle_store _) (by rw [State.settle_mode])
  | assembled op =>
    obtain ⟨q', n, k, -, e⟩ := s.placeRef_links (composeFrame kindRef 0 (s.refWords op))
    rw [e]
    exact h.of_eq rfl .rfl
  | restarts => exact ⟨h.form, h.empty, nofun, iff_of_true rfl rfl⟩
  | resets => exact blank rfl rfl
  | resetEnds => exact blank rfl rfl
  | ticks => exact ⟨h.form, h.empty, h.pending, h.scan⟩
  | _ => exact h.of_eq rfl .rfl

end StoreSound

end Sys2Proof.Machine

open Sys2Proof Sys2Proof.Machine

/-- Settles O10: a page's words are written within the page (`StoreSound.writePage`), a page never goes back to EMPTY by a
change of its state, and one that leaves VALID takes a pending switch to it along (`StoreSound.setPageState_of`). -/
theorem storeSoundKept : Obligations.StoreSoundKept :=
  step_keeps (fun _ _ h => h.of_eq rfl .rfl) fun _ _ _ h k => h.ran k

end

section
/-! PROOFS. The axis records agree with their states, and the map with CONFIG (R23 to R26, R30, R32, R35). -/

namespace Sys2Proof.Machine

/-! ### One record -/

/-- A good sample's values are in range (R23, R28). -/
theorem sampleOf_inRange {a : Axis} {ws : List Word} {x : Sample} (good : sampleOf a ws = some x) (r : AxisRecord)
    (position : r.position = x.position) (speed : r.speed = x.speed) (tension : r.tension = x.tension) :
    inRange a r := by
  have rope (good : ropeSample ws = some x) : x.position ≤ 65000 ∧ x.speed.natAbs ≤ 1000 ∧ x.tension ≤ 10000 := by
    simp only [ropeSample] at good
    split at good
    · split at good
      · cases good; assumption
      · cases good
    · cases good
  simp only [inRange, position, speed, tension]
  cases a with
  | hoist => exact rope good
  | drag => exact rope good
  | swing =>
    simp only [sampleOf, swingSampleOf] at good
    split at good
    · split at good
      · rename_i ok
        cases good; exact ⟨ok.1, ok.2, rfl⟩
      · cases good
    · cases good
  | walk =>
    simp only [sampleOf, walkSampleOf] at good
    split at good
    · split at good
      · rename_i ok
        cases good; exact ⟨ok, rfl, rfl⟩
      · cases good
    · cases good

theorem inRange_zero {a : Axis} {r : AxisRecord} (position : r.position = 0) (speed : r.speed = 0)
    (tension : r.tension = 0) : inRange a r := by
  cases a <;> simp [inRange, position, speed, tension]

namespace RecordSound

theorem of_unmapped (a : Axis) (bad : Word) : RecordSound a (.unmapped bad) where
  range := inRange_zero rfl rfl rfl
  unmapped _ := ⟨rfl, rfl⟩
  mapped := fun mapped => absurd rfl mapped
  unheard _ := rfl
  heard := nofun
  cleared _ := ⟨rfl, rfl, rfl, rfl, rfl⟩
  overtaken := nofun

/-- The station map gives the axis a station number in 1 to 62 (R25). -/
theorem map (a : Axis) (r : AxisRecord) (m : Memory) (now : Time) : RecordSound a (r.map ((cfgStation a).read m) now) where
  range := inRange_zero rfl rfl rfl
  unmapped := nofun
  mapped _ := by
    have within := (cfgStation a).read_mem m (by cases a <;> decide)
    have bounds : (cfgStation a).lo = 1 ∧ (cfgStation a).hi = 62 := by cases a <;> exact ⟨rfl, rfl⟩
    rw [bounds.1, bounds.2] at within
    exact ⟨within.1, within.2, nofun⟩
  unheard _ := rfl
  heard := nofun
  cleared _ := ⟨rfl, rfl, rfl, rfl, rfl⟩
  overtaken := nofun

theorem change {s : State} {a : Axis} {r : AxisRecord} (h : RecordSound a (s.axis a)) (k : AxisChange s a r) :
    RecordSound a r ∧ (r.state = .unmapped ↔ (s.axis a).state = .unmapped) := by
  obtain ⟨range, unmapped, mapped, unheard, heard, cleared, overtaken⟩ := h
  cases k with
  | sample x ws due on good =>
    obtain ⟨low, high, -⟩ := mapped on
    refine ⟨⟨sampleOf_inRange good _ rfl rfl rfl, nofun, fun _ => ⟨low, high, nofun⟩, ?_, fun _ => nofun, nofun,
      fun m => ?_⟩, iff_of_false nofun on⟩
    · rintro (_ | _) <;> contradiction
    · dsimp only [AxisRecord.accept]
      split
      · exact fun same => ⟨rfl, same⟩
      · exact nofun
  | bad =>
    refine ⟨⟨?_, unmapped, mapped, unheard, heard, cleared, overtaken⟩, Iff.rfl⟩
    cases a <;> exact range
  | stale runs =>
    have on : (s.axis a).state ≠ .unmapped := fun off => runs (unmapped off).2
    obtain ⟨low, high, -⟩ := mapped on
    refine ⟨⟨?_, nofun, fun _ => ⟨low, high, nofun⟩, ?_, nofun, cleared, nofun⟩, iff_of_false nofun on⟩
    · cases a <;> exact range
    · rintro (_ | _) <;> contradiction
  | expired =>
    refine ⟨⟨?_, unmapped, mapped, unheard, heard, cleared, nofun⟩, Iff.rfl⟩
    cases a <;> exact range

end RecordSound

/-! ### The image -/

theorem Image.unmapAll_axis (m : Image) (a : Axis) : m.unmapAll.axis a = .unmapped (m.axis a).badSamples := by
  cases a <;> rfl

theorem State.mapTakesEffect_axis (s : State) (a : Axis) :
    s.mapTakesEffect.axis a = (s.axis a).map ((cfgStation a).read (s.page .config).words) s.now := by
  cases a <;> rfl

theorem State.withWalk_phase (s : State) (w : WalkSeq) : (s.withWalk w).phase = s.phase := by
  rw [State.withWalk_frame]; rfl

/-- The records after a change of a page's state: those of the station map where CONFIG gains or loses VALID, else as
they were (R25, R26). -/
theorem State.setPageState_image (s : State) (id : PageId) (st : PageState) :
    (id = .config ∧ (s.page id).state = .valid ∧ st ≠ .valid ∧ (s.setPageState id st).image = s.image.unmapAll)
    ∨ (id = .config ∧ st = .valid ∧ (s.page id).state ≠ .valid
        ∧ ∃ u : State, (s.setPageState id st).image = u.mapTakesEffect.image)
    ∨ ((id = .config → ((s.page id).state = .valid ↔ st = .valid)) ∧ (s.setPageState id st).image = s.image) := by
  obtain ⟨old, new, e⟩ | ⟨old, new, e⟩ | ⟨iff, e⟩ := s.setPageState_cases id st
  · rw [e]
    obtain ⟨rfl, e | e⟩ | ⟨rfl, e⟩ | ⟨e, other, -⟩ | ⟨n, rfl, -, e⟩ := (s.pageStored id st).pageLost_cases id
    · rw [e]; exact .inl ⟨rfl, old, new, rfl⟩
    · rw [e, State.walkAxisLost_frame]; exact .inl ⟨rfl, old, new, rfl⟩
    · rw [e, State.walkPageLost, State.withWalk_image]; exact .inr (.inr ⟨nofun, rfl⟩)
    · rw [e]; exact .inr (.inr ⟨fun config => absurd config other, rfl⟩)
    · rw [e]; exact .inr (.inr ⟨nofun, rfl⟩)
  · rw [e]
    cases id with
    | config => exact .inr (.inl ⟨rfl, new, old, s.pageStored .config st, rfl⟩)
    | walk => exact .inr (.inr ⟨nofun, rfl⟩)
    | alarm => exact .inr (.inr ⟨nofun, rfl⟩)
    | profile n => exact .inr (.inr ⟨nofun, rfl⟩)
  · rw [e]; exact .inr (.inr ⟨fun _ => iff, rfl⟩)

namespace ImageSound

variable {s t : State}

theorem of_eq (h : ImageSound s) (phase : t.phase = s.phase) (axis : ∀ a, t.axis a = s.axis a)
    (config : t.pageValid .config = s.pageValid .config) : ImageSound t := by
  obtain ⟨records, working, reset⟩ := h
  rw [← phase] at working reset
  rw [← config] at working
  simp only [← axis] at records working reset
  exact ⟨records, working, reset⟩

theorem of_frame (h : ImageSound s) (phase : t.phase = s.phase) (image : t.image = s.image) (store : t.store = s.store) :
    ImageSound t :=
  h.of_eq phase (fun a => by rw [State.axis, image]; rfl) (State.pageValid_of_store store _)

/-- No axis is mapped, and CONFIG is not VALID. -/
theorem off (axis : ∀ a, ∃ bad, t.axis a = .unmapped bad) (config : t.phase = .working → t.pageValid .config = false) :
    ImageSound t := by
  have unmapped (a : Axis) : (t.axis a).state = .unmapped := by
    obtain ⟨bad, e⟩ := axis a
    rw [e]; rfl
  refine ⟨fun a => ?_, fun work a => iff_of_true (unmapped a) (config work), fun _ _ => unmapped⟩
  obtain ⟨bad, e⟩ := axis a
  exact e ▸ .of_unmapped a bad

/-- Every axis is mapped, and CONFIG is VALID. -/
theorem on (u : State) (image : t.image = u.mapTakesEffect.image) (config : t.pageValid .config = true)
    (work : t.phase = .working) : ImageSound t := by
  have axis (a : Axis) : t.axis a = (u.axis a).map ((cfgStation a).read (u.page .config).words) u.now := by
    rw [← State.mapTakesEffect_axis, State.axis, image]; rfl
  refine ⟨fun a => axis a ▸ .map .., fun _ a => iff_of_false ?_ (by simp [config]), fun k => absurd work k⟩
  rw [axis]
  exact nofun

theorem setAxis (h : ImageSound s) {a : Axis} {r : AxisRecord} (k : AxisChange s a r) : ImageSound (s.setAxis a r) := by
  obtain ⟨records, working, reset⟩ := h
  obtain ⟨sound, mapped⟩ := (records a).change k
  have same (b : Axis) : RecordSound b ((s.setAxis a r).axis b)
      ∧ (((s.setAxis a r).axis b).state = .unmapped ↔ (s.axis b).state = .unmapped) := by
    by_cases hb : b = a
    · subst hb
      rw [State.axis_setAxis]
      exact ⟨sound, mapped⟩
    · rw [State.axis_setAxis_ne s r hb]
      exact ⟨records b, .rfl⟩
  exact ⟨fun b => (same b).1, fun work b => (same b).2.trans (working work b),
    fun k k' b => (same b).2.mpr (reset k k' b)⟩

theorem setPageState (h : ImageSound s) (work : s.phase = .working) (id : PageId) (st : PageState) :
    ImageSound (s.setPageState id st) := by
  have phase : (s.setPageState id st).phase = s.phase := by rw [State.setPageState_frame]
  obtain ⟨rfl, -, new, image⟩ | ⟨rfl, new, -, u, image⟩ | ⟨iff, image⟩ := s.setPageState_image id st
  · refine off (fun a => ⟨(s.axis a).badSamples, ?_⟩) fun _ => ?_
    · rw [State.axis, image, Image.unmapAll_axis]
      rfl
    · simpa [State.pageValid, State.setPageState_page] using new
  · refine on u image ?_ (phase.trans work)
    simpa [State.pageValid, State.setPageState_page] using new
  · refine h.of_eq phase (fun a => by rw [State.axis, image]; rfl) ?_
    by_cases config : id = .config
    · subst config
      simpa [State.pageValid, State.setPageState_page] using (iff rfl).symm
    · rw [State.pageValid, State.setPageState_page_ne s id _ st (Ne.symm config)]
      rfl

theorem settle (h : ImageSound s) : ImageSound s.settle :=
  h.of_frame (by simp) (by simp) (by simp)

theorem changes {c : Instr} (h : ImageSound s) (work : s.phase = .working) (k : Changes c s t) :
    ImageSound t ∧ t.phase = .working := by
  induction k with
  | refl => exact ⟨h, work⟩
  | tail _ k ih =>
    obtain ⟨ih, work⟩ := ih
    cases k with
    | settles => exact ⟨ih.settle, by rwa [State.settle_phase]⟩
    | evaluate i b => exact ⟨ih.of_frame (by simp) (by simp) (by simp), by rwa [State.evaluate_phase]⟩
    | walk w k => exact ⟨ih.of_frame (State.withWalk_phase _ w) (by simp) (by simp), by rwa [State.withWalk_phase]⟩
    | axis a r k => exact ⟨ih.setAxis k, work⟩
    | store x k => exact ⟨by cases k <;> exact ih.of_eq rfl (fun _ => rfl) rfl, work⟩
    | goes => exact ⟨ih.of_eq rfl (fun _ => rfl) rfl, work⟩
    | acknowledged e =>
      rw [State.ackEntry_frame]
      exact ⟨ih.of_frame rfl rfl rfl, work⟩
    | halts =>
      rw [State.enterHalt_frame]
      exact ⟨ih.of_frame rfl rfl rfl, work⟩
    | writes id off data =>
      have stored : ImageSound (State.wordsStored _ id off data) :=
        ih.of_eq rfl (fun _ => rfl) (by cases id <;> rfl)
      rw [State.writePage_eq]
      exact ⟨stored.setPageState work id .written, by rw [State.setPageState_frame]; exact work⟩
    | validates id =>
      refine ⟨(ih.setPageState work id .validating).of_frame rfl rfl rfl, ?_⟩
      rw [State.setPageState_frame]; exact work
    | validated v st =>
      refine ⟨(ih.setPageState work v.page st).of_frame rfl rfl rfl, ?_⟩
      rw [State.setPageState_frame]; exact work
    | fails id => exact ⟨ih.setPageState work id .failed, by rw [State.setPageState_frame]; exact work⟩
    | _ => exact ⟨ih.of_frame rfl rfl rfl, work⟩

/-- At the end of a commanded restart the station map takes effect if CONFIG is VALID (R35). -/
theorem resumed (h : ImageSound s) {k : Bool} (restarting : s.phase = .restarting k) : ImageSound s.resumed := by
  have unmapped := h.reset (by simp [restarting]) (by simp [restarting])
  simp only [State.resumed]
  split
  · rename_i config
    exact on _ rfl config rfl
  · rename_i config
    exact ⟨h.records, fun _ a => iff_of_true (unmapped a) (eq_false_of_ne_true config), fun k => absurd rfl k⟩

theorem ran {c : Instr} (h : ImageSound s) (k : Ran c s t) : ImageSound t := by
  cases k with
  | settled u work k => exact (h.changes work k).1.settle
  | quiet _ work k => exact (h.changes work k).1
  | resumed u restarting k =>
    have started : s.resumed.phase = .working := by
      simp only [State.resumed]
      split <;> rfl
    exact ((h.resumed restarting).changes started k).1.settle
  | assembled op =>
    obtain ⟨q', n, k, -, e⟩ := s.placeRef_links (composeFrame kindRef 0 (s.refWords op))
    rw [e]
    exact h.of_frame rfl rfl rfl
  | restarts =>
    exact off (fun a => ⟨_, s.image.unmapAll_axis a⟩) nofun
  | resets => exact off (fun a => ⟨0, by cases a <;> rfl⟩) nofun
  | resetEnds => exact off (fun a => ⟨0, by cases a <;> rfl⟩) fun _ => rfl
  | ticks => exact h.of_eq rfl (fun a => by cases a <;> rfl) rfl
  | ticksRestarting k restarting =>
    have unmapped := h.reset (by simp [restarting]) (by simp [restarting])
    have axis (a : Axis) : ({ s.tick with phase := .restarting true } : State).axis a = s.axis a := by cases a <;> rfl
    exact ⟨fun a => axis a ▸ h.records a, nofun, fun _ _ a => axis a ▸ unmapped a⟩
  | off => exact ⟨h.records, nofun, fun _ k => absurd rfl k⟩
  | _ => exact h.of_frame rfl rfl rfl

end ImageSound

end Sys2Proof.Machine

open Sys2Proof Sys2Proof.Machine

/-- Settles O11: a sample and an expiry keep a record sound (`RecordSound.change`), and the map follows CONFIG
(`ImageSound.setPageState`, `ImageSound.resumed`). -/
theorem imageSoundKept : Obligations.ImageSoundKept :=
  step_keeps (fun _ _ h => h.of_frame rfl rfl rfl) fun _ _ _ h k => h.ran k

end

section
/-! PROOFS. The Management Unit agrees with its validation and its RESTART, and the cycle timer with the watchdog
(R20, R21, R45, R46, R63, R177, R178). -/

namespace Sys2Proof.Machine

/-- An elementary change finds and leaves the part in the same phase. -/
theorem Change.phase {c : Instr} {s t : State} (k : Change c s t) : t.phase = s.phase := by
  cases k with
  | settles => exact State.settle_phase s
  | evaluate i b => exact State.evaluate_phase s i b
  | walk w => exact s.withWalk_phase w
  | acknowledged e => rw [State.ackEntry_frame]; rfl
  | halts => rw [State.enterHalt_frame]; rfl
  | writes id off data => rw [State.writePage_eq, State.setPageState_frame]; rfl
  | validates id => rw [State.setPageState_frame]; rfl
  | validated v st => rw [State.setPageState_frame]; rfl
  | fails id => rw [State.setPageState_frame]
  | _ => rfl

theorem State.resumed_phase (s : State) : s.resumed.phase = .working := by
  simp only [State.resumed]
  split <;> rfl

/-- A RESTART reply waits in the port's transmit queue or is being sent there. -/
def LinkPort.holdsRestart (x : LinkPort) : Prop :=
  (∃ y ∈ x.txQueue, isRestartReply y) ∨ ∃ y, x.tx = some y ∧ isRestartReply y.item

/-- No event but the arbiter's puts a RESTART reply in a port. -/
theorem PortChange.holdsRestart {s : State} {p : Port} {x : LinkPort} (k : PortChange s p x) (h : x.holdsRestart) :
    (s.port p).holdsRestart := by
  cases k with
  | receiver => exact h
  | enqueue => exact h
  | dequeue => exact h
  | forward f =>
    obtain ⟨y, hy, reply⟩ | sending := h
    · obtain old | new := List.mem_append.mp hy
      · exact .inl ⟨y, old, reply⟩
      · cases List.mem_singleton.mp new
        cases reply
    · exact .inr sending
  | send =>
    obtain e | ⟨f, rest, -, queue, e⟩ := LinkPort.takeHead_cases { s.port p with tx := none }
    · rw [e] at h
      exact .inl (h.resolve_right nofun)
    · have queue : (s.port p).txQueue = f :: rest := queue
      rw [e] at h
      refine .inl (queue ▸ ?_)
      obtain ⟨y, hy, reply⟩ | ⟨_, ⟨⟩, reply⟩ := h
      · exact ⟨y, List.mem_cons_of_mem _ hy, reply⟩
      · exact ⟨f, List.mem_cons_self, reply⟩

theorem State.setPageState_state (s : State) (id : PageId) (st : PageState) (j : PageId) :
    ((s.setPageState id st).page j).state = if j = id then st else (s.page j).state := by
  split
  · rename_i same
    rw [same, State.setPageState_page]
  · rename_i other
    rw [State.setPageState_page_ne s id j st other]

namespace ManagementSound

variable {s t : State}

theorem reply (h : ManagementSound s) (holds : s.links.u.holdsRestart) : s.mgmt.unit = .restartPlaced :=
  holds.elim h.queued h.sending

theorem noReplyBelow (h : ManagementSound s) : ¬s.links.d.holdsRestart := by
  rintro (⟨y, hy, reply⟩ | ⟨y, hy, reply⟩)
  · exact h.below.1 y hy reply
  · exact h.below.2 y hy reply

/-- At work the phase asks for nothing. -/
theorem atWork (working : t.phase = .working)
    (validating : ∀ v, t.mgmt.unit = .validating v → (t.page v.page).state = .validating ∧ v.next ≤ v.page.size)
    (held : ∀ id, (t.page id).state = .validating → ∃ v, t.mgmt.unit = .validating v ∧ v.page = id)
    (reply : t.links.u.holdsRestart → t.mgmt.unit = .restartPlaced) (below : ¬t.links.d.holdsRestart) :
    ManagementSound t where
  validating := validating
  held := held
  queued waits := reply (.inl waits)
  sending sent := reply (.inr sent)
  inEffect _ restarting := absurd (working.symm.trans restarting) nofun
  loading _ restarting := absurd (working.symm.trans restarting) nofun
  below := ⟨fun y hy reply => below (.inl ⟨y, hy, reply⟩), fun y hy reply => below (.inr ⟨y, hy, reply⟩)⟩

theorem of_store (h : ManagementSound s) (working : t.phase = .working) (unit : t.mgmt.unit = s.mgmt.unit)
    (store : ∀ id, (t.page id).state = (s.page id).state) (up : t.links.u.holdsRestart → s.links.u.holdsRestart)
    (down : t.links.d.holdsRestart → s.links.d.holdsRestart) : ManagementSound t := by
  refine atWork working (fun v e => ?_) (fun id e => ?_) (fun holds => ?_) fun holds => h.noReplyBelow (down holds)
  · rw [store]
    exact h.validating v (unit ▸ e)
  · rw [unit]
    exact h.held id (store id ▸ e)
  · rw [unit]
    exact h.reply (up holds)

theorem of_frame (h : ManagementSound s) (working : t.phase = .working) (unit : t.mgmt.unit = s.mgmt.unit)
    (store : t.store = s.store) (links : t.links = s.links) : ManagementSound t :=
  h.of_store working unit (fun id => by rw [State.page, store]; rfl) (by rw [links]; exact id) (by rw [links]; exact id)

/-- The unit goes from one that neither validates nor holds a RESTART to another such (R180). -/
theorem setUnit (h : ManagementSound s) (working : t.phase = .working) (old : s.mgmt.unit ≠ .restartPlaced)
    (idle : ∀ v, s.mgmt.unit ≠ .validating v) (new : ∀ v, t.mgmt.unit ≠ .validating v)
    (store : ∀ id, (t.page id).state = (s.page id).state) (up : t.links.u.holdsRestart → s.links.u.holdsRestart)
    (down : t.links.d.holdsRestart → s.links.d.holdsRestart) : ManagementSound t := by
  refine atWork working (fun v e => absurd e (new v)) (fun id e => ?_) (fun holds => ?_)
    fun holds => h.noReplyBelow (down holds)
  · obtain ⟨v, e, -⟩ := h.held id (store id ▸ e)
    exact absurd e (idle v)
  · exact absurd (h.reply (up holds)) old

/-! ### The arbiter -/

/-- What the arbiter places is a RESTART reply only where it leaves the RESTART in service (R15, R177). -/
theorem grant (h : ManagementSound s) (working : s.phase = .working) (g : s.grant = some t) : ManagementSound t := by
  obtain ⟨i, -, rfl⟩ | ⟨-, words, restart, unit, rfl⟩ := State.grant_cases g
  · refine h.of_store working rfl (fun _ => rfl) ?_ id
    rintro (⟨y, hy, reply⟩ | sending)
    · obtain old | new := List.mem_append.mp hy
      · exact .inl ⟨y, old, reply⟩
      · cases List.mem_singleton.mp new
        cases reply
    · exact .inr sending
  · have none : ¬s.links.u.holdsRestart := fun holds => by
      rw [h.reply holds] at unit
      cases unit
    refine atWork working (fun v e => ?_) (fun id e => ?_) (fun holds => ?_) h.noReplyBelow
    · cases restart <;> cases e
    · obtain ⟨v, e, -⟩ := h.held id e
      rw [e] at unit
      cases unit
    · cases restart with
      | true => rfl
      | false =>
        obtain ⟨y, hy, reply⟩ | sending := holds
        · obtain old | new := List.mem_append.mp hy
          · exact absurd (.inl ⟨y, old, reply⟩) none
          · cases List.mem_singleton.mp new
            cases reply
        · exact absurd (.inr sending) none

theorem arbitrate (h : ManagementSound s) (working : s.phase = .working) (n : Nat) :
    ManagementSound (State.arbitrate n s) := by
  induction n generalizing s with
  | zero => exact h
  | succ n ih =>
    simp only [State.arbitrate]
    split
    · rename_i t g
      have same : t.phase = s.phase := by rw [(State.grant_frame g).1]; rfl
      exact ih (h.grant working g) (same.trans working)
    · exact h

theorem settle (h : ManagementSound s) (working : s.phase = .working) : ManagementSound s.settle :=
  (h.arbitrate working _).of_frame ((State.settle_phase s).trans working) rfl rfl rfl

/-! ### The events -/

/-- Pages and the unit's wait change together, no RESTART being in service (R45, R46). -/
theorem of_noRestart (h : ManagementSound s) (working : t.phase = .working) (links : t.links = s.links)
    (unit : s.mgmt.unit ≠ .restartPlaced)
    (validating : ∀ v, t.mgmt.unit = .validating v → (t.page v.page).state = .validating ∧ v.next ≤ v.page.size)
    (held : ∀ j, (t.page j).state = .validating → ∃ v, t.mgmt.unit = .validating v ∧ v.page = j) : ManagementSound t :=
  atWork working validating held (fun holds => absurd (h.reply (links ▸ holds)) unit)
    (links ▸ h.noReplyBelow)

theorem change {c : Instr} (h : ManagementSound s) (working : s.phase = .working) (k : Change c s t) :
    ManagementSound t := by
  have work := k.phase.trans working
  have idle (free : s.mgmt.unit = .free) (id : PageId) : (s.page id).state ≠ .validating := fun e => by
    obtain ⟨v, unit, -⟩ := h.held id e
    rw [free] at unit
    cases unit
  cases k with
  | settles => exact h.settle working
  | evaluate i b => exact h.of_frame work (by simp) (by simp) (by simp)
  | walk w => exact h.of_frame work (by rw [State.withWalk_mgmt]) (by simp) (by simp)
  | acknowledged e =>
    exact h.of_frame work (by rw [State.ackEntry_frame]; rfl) (by rw [State.ackEntry_frame]; rfl) (State.ackEntry_links s e)
  | halts =>
    exact h.of_frame work (by rw [State.enterHalt_frame]; rfl) (by rw [State.enterHalt_frame]; rfl) (State.enterHalt_links s)
  | port p x k =>
    cases p with
    | u => exact h.of_store work rfl (fun _ => rfl) k.holdsRestart id
    | d => exact h.of_store work rfl (fun _ => rfl) id k.holdsRestart
  | refLeaves => exact h.of_store work rfl (fun _ => rfl) id id
  | superseded => exact h.of_store work rfl (fun _ => rfl) id id
  | refTaken => exact h.of_store work rfl (fun _ => rfl) id id
  | watchdogExpires => exact h.of_store work rfl (fun _ => rfl) id id
  | store x k => cases k <;> exact h.of_store work rfl (fun id => by cases id <;> rfl) id id
  | goes => exact h.of_store work rfl (fun id => by cases id <;> rfl) id id
  | mgmt m k =>
    cases k with
    | replies words restart free =>
      exact h.setUnit work (by simp [free]) (by simp [free]) nofun (fun _ => rfl) id id
    | _ => exact h.of_frame work rfl rfl rfl
  | writes id off data _ free =>
    have state (j : PageId) : ((s.writePage id off data).page j).state = if j = id then .written else (s.page j).state := by
      rw [State.writePage_eq, State.setPageState_state]
      split
      · rfl
      · rename_i other
        rw [State.page, State.wordsStored, State.setStore_store, Store.page_setPage_ne _ _ other]
        rfl
    refine of_noRestart h work (by rw [State.writePage_eq, State.setPageState_links]; rfl) (by simp [free])
      (fun v e => ?_) fun j e => ?_
    · rw [State.writePage_eq, State.setPageState_mgmt] at e
      cases free.symm.trans e
    · rw [state] at e
      split at e
      · cases e
      · exact absurd e (idle free j)
  | validates id free =>
    refine of_noRestart h work (State.setPageState_links s id _) (by simp [free]) ?_ fun j e => ?_
    · rintro _ ⟨⟩
      exact ⟨(State.setPageState_state s id .validating id).trans (if_pos rfl), Nat.zero_le _⟩
    · have e := (State.setPageState_state s id .validating j).symm.trans e
      split at e
      · rename_i same
        exact ⟨_, rfl, same.symm⟩
      · exact absurd e (idle free j)
  | validated v st words unit outcome =>
    have done : st ≠ .validating := by obtain rfl | ⟨rfl, -⟩ := outcome <;> exact nofun
    refine of_noRestart h work (State.setPageState_links s v.page _) (by simp [unit]) nofun fun j e => ?_
    have e := (State.setPageState_state s v.page st j).symm.trans e
    split at e
    · exact absurd e done
    · rename_i other
      obtain ⟨w, hw, rfl⟩ := h.held j e
      cases unit.symm.trans hw
      exact absurd rfl other
  | fails id _ valid =>
    have state := State.setPageState_state s id .failed
    have mgmt := State.setPageState_mgmt s id .failed
    have links := State.setPageState_links s id .failed
    refine atWork work (fun v e => ?_) (fun j e => ?_) (fun holds => ?_) (links ▸ h.noReplyBelow)
    · obtain ⟨busy, next⟩ := h.validating v (mgmt ▸ e)
      rw [state, if_neg]
      · exact ⟨busy, next⟩
      · rintro rfl
        simp [State.pageValid, busy] at valid
    · rw [state] at e
      split at e
      · cases e
      · rw [mgmt]
        exact h.held j e
    · rw [mgmt]
      exact h.reply (links ▸ holds)
  | _ => exact h.of_frame work rfl rfl rfl

theorem changes {c : Instr} (h : ManagementSound s) (working : s.phase = .working) (k : Changes c s t) :
    ManagementSound t ∧ t.phase = .working := by
  induction k with
  | refl => exact ⟨h, working⟩
  | tail _ k ih => exact ⟨ih.1.change ih.2 k, k.phase.trans ih.2⟩

/-- Nothing waits, and no page is VALIDATING. -/
theorem fresh (unit : t.mgmt.unit = .free) (pages : ∀ id, (t.page id).state ≠ .validating)
    (phase : ∀ k, t.phase ≠ .restarting k) (queues : ∀ p, (t.port p).txQueue = [] ∧ (t.port p).tx = none) :
    ManagementSound t where
  validating v e := by
    rw [unit] at e
    cases e
  held id e := absurd e (pages id)
  queued := by
    rintro ⟨x, hx, -⟩
    rw [show t.links.u.txQueue = [] from (queues .u).1] at hx
    cases hx
  sending := by
    rintro ⟨x, hx, -⟩
    rw [show t.links.u.tx = none from (queues .u).2] at hx
    cases hx
  inEffect k e := absurd e (phase k)
  loading k e := absurd e (phase k)
  below := by
    constructor
    · intro x hx
      rw [show t.links.d.txQueue = [] from (queues .d).1] at hx
      cases hx
    · intro x hx
      rw [show t.links.d.tx = none from (queues .d).2] at hx
      cases hx

theorem blank_state (id : PageId) (store : t.store = State.reset.store) : (t.page id).state ≠ .validating := by
  rw [State.page_blank store]
  exact nofun

theorem resumed (h : ManagementSound s) {k : Bool} (restarting : s.phase = .restarting k) : ManagementSound s.resumed := by
  obtain ⟨unit, queue, tx⟩ := h.inEffect k restarting
  have none : ¬s.links.u.holdsRestart := by
    rintro (⟨y, hy, -⟩ | ⟨y, hy, -⟩)
    · rw [queue] at hy; cases hy
    · rw [tx] at hy; cases hy
  have idle (id : PageId) : (s.page id).state ≠ .validating := fun e => by
    obtain ⟨v, busy, -⟩ := h.held id e
    cases unit.symm.trans busy
  simp only [State.resumed]
  split
  · exact atWork rfl nofun (fun id e => absurd e (idle id)) (fun holds => absurd holds none) h.noReplyBelow
  · exact atWork rfl nofun (fun id e => absurd e (idle id)) (fun holds => absurd holds none) h.noReplyBelow

theorem ran {c : Instr} (h : ManagementSound s) (k : Ran c s t) : ManagementSound t := by
  cases k with
  | idle => exact h
  | settled u working k => exact (h.changes working k).1.settle (h.changes working k).2
  | quiet _ working k => exact (h.changes working k).1
  | resumed u restarting k =>
    obtain ⟨sound, working⟩ := (h.resumed restarting).changes s.resumed_phase k
    exact sound.settle working
  | byte p rx =>
    cases p <;> exact ⟨h.validating, h.held, h.queued, h.sending, h.inEffect, h.loading, h.below⟩
  | held p rx =>
    cases p <;> exact ⟨h.validating, h.held, h.queued, h.sending, h.inEffect, h.loading, h.below⟩
  | assembled op working =>
    obtain ⟨q', n, k, placed, e⟩ := s.placeRef_links (composeFrame kindRef 0 (s.refWords op))
    rw [e]
    refine h.of_store working rfl (fun _ => rfl) id ?_
    rintro (⟨y, hy, reply⟩ | sending)
    · obtain old | rfl := placed.mem y hy
      · exact .inl ⟨y, old, reply⟩
      · cases reply
    · exact .inr sending
  | restarts p sent _ working tx reply =>
    cases p with
    | d => exact absurd (.inr ⟨sent, tx, reply⟩) h.noReplyBelow
    | u =>
      have unit := h.sending ⟨sent, tx, reply⟩
      refine ⟨fun v e => ?_, fun id e => ?_, fun _ => unit, fun _ => unit, fun _ _ => ⟨unit, rfl, rfl⟩, fun _ _ => rfl,
        nofun, nofun⟩
      · cases unit.symm.trans e
      · obtain ⟨v, busy, -⟩ := h.held id e
        cases unit.symm.trans busy
  | ticks working =>
    refine atWork working (fun v e => ?_) (fun id e => ?_) (fun holds => ?_) h.noReplyBelow
    · have e : s.validationAdvance = .validating v := e
      simp only [State.validationAdvance] at e
      split at e
      all_goals cases e
      rename_i w unit
      obtain ⟨busy, next⟩ := h.validating w unit
      refine ⟨busy, ?_⟩
      have := min_le_right Config.wordsPerAdvance (w.page.size - w.next)
      simp only [CheckRun.advance]
      omega
    · obtain ⟨v, unit, page⟩ := h.held id e
      have advanced : s.validationAdvance = .validating (v.advance (s.page v.page).words) := by
        rw [State.validationAdvance, unit]
      exact ⟨_, advanced, page⟩
    · have placed : s.validationAdvance = .restartPlaced := by rw [State.validationAdvance, h.reply holds]
      exact placed
  | ticksRestarting k restarting =>
    exact ⟨h.validating, h.held, h.queued, h.sending, fun _ _ => h.inEffect k restarting,
      fun _ _ => h.loading k restarting, h.below⟩
  | clock running cut =>
    cases cut with
    | false => exact ⟨h.validating, h.held, h.queued, h.sending, h.inEffect, h.loading, h.below⟩
    | true =>
      have kept {x : LinkPort} {y : Sending} (hy : x.cutSending.tx = some y) : ∃ z, x.tx = some z ∧ z.item = y.item := by
        obtain ⟨z, hz, rfl⟩ := Option.map_eq_some_iff.mp hy
        exact ⟨z, hz, rfl⟩
      refine ⟨h.validating, h.held, h.queued, fun ⟨y, hy, reply⟩ => ?_, fun k restarting => ?_, h.loading, h.below.1,
        fun y hy reply => ?_⟩
      · obtain ⟨z, hz, same⟩ := kept hy
        exact h.sending ⟨z, hz, same ▸ reply⟩
      · obtain ⟨unit, queue, tx⟩ := h.inEffect k restarting
        exact ⟨unit, queue, Option.map_eq_none_iff.mpr tx⟩
      · obtain ⟨z, hz, same⟩ := kept hy
        exact h.below.2 z hz (same ▸ reply)
  | off => exact ⟨h.validating, h.held, h.queued, h.sending, nofun, nofun, h.below⟩
  | resets => exact fresh rfl (fun id => blank_state id rfl) nofun (fun p => by cases p <;> exact ⟨rfl, rfl⟩)
  | resetEnds => exact fresh rfl (fun id => blank_state id rfl) nofun (fun p => by cases p <;> exact ⟨rfl, rfl⟩)

end ManagementSound

/-! ### Link loss (R20, R21, R63) -/

namespace LinkLossSound

variable {s t : State}

theorem of_eq (h : LinkLossSound s) (phase : t.phase = s.phase) (watchdog : t.links.watchdog = s.links.watchdog)
    (timer : t.gov.cycleTimer = s.gov.cycleTimer) : LinkLossSound t := by
  obtain ⟨expired, restart⟩ := h
  rw [← watchdog, ← timer] at expired
  rw [← watchdog, ← phase] at restart
  exact ⟨expired, restart⟩

/-- At work the phase asks for nothing. -/
theorem atWork (working : t.phase = .working) (timer : t.links.watchdog = .expired ↔ t.gov.cycleTimer ≠ none) :
    LinkLossSound t :=
  ⟨timer, fun _ restarting => absurd (working.symm.trans restarting) nofun⟩

theorem setPageState (h : LinkLossSound s) (id : PageId) (st : PageState) : LinkLossSound (s.setPageState id st) := by
  rw [State.setPageState_frame]
  exact h.of_eq rfl rfl rfl

theorem change {c : Instr} (h : LinkLossSound s) (working : s.phase = .working) (k : Change c s t) : LinkLossSound t := by
  have phase := k.phase
  cases k with
  | settles => exact h.of_eq phase (by simp) (by simp)
  | evaluate i b => exact h.of_eq phase (by simp) (by simp)
  | walk w => exact h.of_eq phase (by simp) (by simp)
  | acknowledged e => rw [State.ackEntry_frame]; exact h.of_eq rfl rfl rfl
  | halts => rw [State.enterHalt_frame]; exact h.of_eq rfl rfl rfl
  | port p x => cases p <;> exact h.of_eq phase rfl rfl
  | gov g k =>
    cases k with
    | expired runs => exact atWork working (h.timer.trans (iff_of_true runs nofun))
    | _ => exact h.of_eq phase rfl rfl
  | refTaken => exact atWork working (iff_of_false nofun fun runs => runs rfl)
  | watchdogExpires => exact atWork working (iff_of_true rfl nofun)
  | writes id off data =>
    have stored : LinkLossSound (s.wordsStored id off data) := h.of_eq rfl rfl rfl
    exact stored.setPageState id .written
  | validates id => exact (h.setPageState id .validating).of_eq rfl rfl rfl
  | validated v st => exact (h.setPageState v.page st).of_eq rfl rfl rfl
  | fails id => exact h.setPageState id .failed
  | _ => exact h.of_eq phase rfl rfl

theorem changes {c : Instr} (h : LinkLossSound s) (working : s.phase = .working) (k : Changes c s t) :
    LinkLossSound t ∧ t.phase = .working := by
  induction k with
  | refl => exact ⟨h, working⟩
  | tail _ k ih => exact ⟨ih.1.change ih.2 k, k.phase.trans ih.2⟩

theorem settle (h : LinkLossSound s) : LinkLossSound s.settle := h.of_eq (by simp) (by simp) (by simp)

/-- The watchdog runs, and the cycle timer does not. -/
theorem running {start : Time} (watchdog : t.links.watchdog = .running start) (timer : t.gov.cycleTimer = none) :
    LinkLossSound t := by
  refine ⟨iff_of_false ?_ (· timer), fun k _ => ?_⟩
  all_goals
    rw [watchdog]
    exact nofun

theorem ran {c : Instr} (h : LinkLossSound s) (k : Ran c s t) : LinkLossSound t := by
  cases k with
  | settled u working k => exact (h.changes working k).1.settle
  | quiet _ working k => exact (h.changes working k).1
  | resumed u restarting k =>
    have stopped : s.gov.cycleTimer = none := not_not.mp fun runs => h.restart _ restarting (h.timer.mpr runs)
    have resumed : LinkLossSound s.resumed := by
      simp only [State.resumed]
      split <;> exact running rfl stopped
    exact (resumed.changes s.resumed_phase k).1.settle
  | byte p rx => cases p <;> exact h.of_eq rfl rfl rfl
  | held p rx => cases p <;> exact h.of_eq rfl rfl rfl
  | assembled op =>
    obtain ⟨q', n, k, -, e⟩ := s.placeRef_links (composeFrame kindRef 0 (s.refWords op))
    rw [e]
    exact h.of_eq rfl rfl rfl
  | restarts => exact running rfl rfl
  | resets => exact running rfl rfl
  | resetEnds => exact running rfl rfl
  | ticksRestarting k restarting => exact ⟨h.timer, fun _ _ => h.restart k restarting⟩
  | clock running cut => cases cut <;> exact h.of_eq rfl rfl rfl
  | off => exact ⟨h.timer, nofun⟩
  | _ => exact h.of_eq rfl rfl rfl

end LinkLossSound

end Sys2Proof.Machine

open Sys2Proof Sys2Proof.Machine

/-- Settles O12: only the arbiter places a RESTART reply, and leaves the RESTART in service with it (`ManagementSound.grant`);
the watchdog and the cycle timer change together (`LinkLossSound.change`). -/
theorem serviceAndLinkLossSoundKept : Obligations.ServiceAndLinkLossSoundKept :=
  ⟨step_keeps (fun _ _ h => ⟨h.validating, h.held, h.queued, h.sending, h.inEffect, h.loading, h.below⟩)
      fun _ _ _ h k => h.ran k,
    step_keeps (fun _ _ h => h.of_eq rfl rfl rfl) fun _ _ _ h k => h.ran k⟩

end

section
/-! PROOFS. The output lines follow the mode, the alarm list and the transmitters (R1, R13, R172 to R174, R191). -/

namespace Sys2Proof.Machine

/-! ### The horn pattern and its origin (R173, R174) -/

/-- The pattern held after a change of the list, and its origin, against those before it (R173, R174). -/
structure HornFollows (s t : State) : Prop where
  sound : t.alarm.horn = (soundingEntry t.alarm.list).map (·.horn)
  kept  : t.alarm.horn = s.alarm.horn ∨ t.alarm.horn = none → t.alarm.hornOrigin = s.alarm.hornOrigin
  moved : t.alarm.horn ≠ s.alarm.horn → t.alarm.horn ≠ none → t.alarm.hornOrigin = s.now

namespace HornFollows

variable {s t u : State}

theorem of_sound (sound : s.alarm.horn = (soundingEntry s.alarm.list).map (·.horn)) : HornFollows s s :=
  ⟨sound, fun _ => rfl, fun moves => absurd rfl moves⟩

/-- What changes neither the list, the pattern nor its origin. -/
theorem of_eq (h : HornFollows s u) (list : t.alarm.list = u.alarm.list) (horn : t.alarm.horn = u.alarm.horn)
    (origin : t.alarm.hornOrigin = u.alarm.hornOrigin) : HornFollows s t := by
  obtain ⟨sound, kept, moved⟩ := h
  rw [← list, ← horn] at sound
  rw [← horn, ← origin] at kept moved
  exact ⟨sound, kept, moved⟩

theorem hornFollow (horn : u.alarm.horn = s.alarm.horn) (origin : u.alarm.hornOrigin = s.alarm.hornOrigin)
    (now : u.now = s.now) : HornFollows s u.hornFollow := by
  refine ⟨by rw [State.hornFollow_horn, State.hornFollow_list], ?_, ?_⟩
  all_goals
    rw [State.hornFollow_horn]
    simp only [State.hornFollow]
    split
    · rename_i same
      simp [same, horn, origin]
    · cases hp : (soundingEntry u.alarm.list).map (·.horn) <;> simp_all

/-- Where the list's pattern is the one held already, nothing moves. -/
theorem again {v : State} (h : HornFollows s u) (same : (soundingEntry v.alarm.list).map (·.horn) = u.alarm.horn)
    (horn : v.alarm.horn = u.alarm.horn) (origin : v.alarm.hornOrigin = u.alarm.hornOrigin) :
    HornFollows s v.hornFollow := by
  simp only [State.hornFollow, same, horn, if_true]
  exact ⟨horn.trans same.symm, by rw [horn, origin]; exact h.kept, by rw [horn, origin]; exact h.moved⟩

theorem raise (i : AlarmId) (horn : u.alarm.horn = s.alarm.horn) (origin : u.alarm.hornOrigin = s.alarm.hornOrigin)
    (now : u.now = s.now) : HornFollows s (u.raise i) := by
  simp only [State.raise]
  split
  · exact (hornFollow (by exact horn) (by exact origin) (by exact now)).of_eq rfl rfl rfl
  · exact hornFollow (by exact horn) (by exact origin) (by exact now)

theorem rearmTest (h : HornFollows s u) (i : AlarmId) : HornFollows s (u.rearmTest i) := by
  simp only [State.rearmTest]
  split
  · exact h.of_eq rfl rfl rfl
  · exact h

/-- After the entry has left the list, what a removal does beside leaves the pattern alone (R150, R153). -/
theorem removed {e : Entry}
    (h : HornFollows s (State.hornFollow (u.setAlarm
      { u.alarm with list := u.alarm.list.filter fun x => decide (x.id ≠ e.id) }))) :
    HornFollows s (u.removeEntry e) := by
  simp only [State.removeEntry]
  split
  · exact h.of_eq rfl rfl rfl
  · refine rearmTest (u := State.setStatus _ _ _) ?_ _
    exact h.of_eq rfl rfl rfl

theorem present0 (sound : s.alarm.horn = (soundingEntry s.alarm.list).map (·.horn)) (i : AlarmId) :
    HornFollows s (s.present0 i) := by
  by_cases raises : raisesNow s i
  · rw [State.present0_of_raises raises]
    exact raise i rfl rfl rfl
  · rw [State.present0_of_stands raises]
    exact (of_sound sound).of_eq rfl rfl rfl

theorem absent0 (sound : s.alarm.horn = (soundingEntry s.alarm.list).map (·.horn)) (i : AlarmId) :
    HornFollows s (s.absent0 i) := by
  simp only [State.absent0]
  split
  · exact present0 sound i
  · refine rearmTest ?_ i
    split
    · exact (of_sound sound).of_eq rfl rfl rfl
    · split
      · exact removed (hornFollow rfl rfl rfl)
      · exact (of_sound sound).of_eq rfl rfl rfl

theorem evaluate0 (sound : s.alarm.horn = (soundingEntry s.alarm.list).map (·.horn)) (i : AlarmId) (b : Bool) :
    HornFollows s (s.evaluate0 i b) := by
  cases b
  · exact absent0 sound i
  · exact present0 sound i

end HornFollows

/-- Entries that do not sound, acknowledged ones, leave the sounding entry as it is when they leave the list. -/
theorem soundingEntry_filter (l : List Entry) (p : Entry → Bool) (silent : ∀ e ∈ l, p e = false → e.sounds = false) :
    soundingEntry (l.filter p) = soundingEntry l := by
  induction l with
  | nil => rfl
  | cons e l ih =>
    have ih := ih fun x hx => silent x (List.mem_cons_of_mem _ hx)
    cases hp : p e with
    | true => rw [List.filter_cons_of_pos hp, soundingEntry, soundingEntry, ih]
    | false =>
      rw [List.filter_cons_of_neg (by simp [hp]), ih, soundingEntry, silent e List.mem_cons_self hp]
      cases soundingEntry l <;> simp

/-- The list in which the entries of an ID are acknowledged (R153). -/
abbrev ackedList (l : List Entry) (i : AlarmId) : List Entry :=
  l.map fun x => if x.id = i then { x with acked := true } else x

theorem soundingEntry_without_acked (l : List Entry) (i : AlarmId) :
    soundingEntry ((ackedList l i).filter fun x => decide (x.id ≠ i)) = soundingEntry (ackedList l i) := by
  refine soundingEntry_filter _ _ fun x hx own => ?_
  obtain ⟨y, -, rfl⟩ := List.mem_map.mp hx
  by_cases same : y.id = i
  · simp [same, Entry.sounds]
  · simp [same] at own

/-- An acknowledgement, with the removal it may bring, moves the pattern at most once: the entry that leaves the list does
not sound any more (R153, R173). -/
theorem HornFollows.acknowledged {s : State} (sound : s.alarm.horn = (soundingEntry s.alarm.list).map (·.horn))
    (e : Entry) : HornFollows s (s.ackEntry e).1 := by
  have marked : HornFollows s (State.hornFollow (s.setAlarm { s.alarm with list := ackedList s.alarm.list e.id })) :=
    hornFollow rfl rfl rfl
  simp only [State.ackEntry]
  split
  · exact of_sound sound
  · split
    · refine removed (marked.again ?_ rfl rfl)
      rw [marked.sound]
      simp only [State.setAlarm_alarm, State.setStatus_list, State.hornFollow_list, soundingEntry_without_acked]
    · exact marked.of_eq rfl rfl rfl

/-! ### The lines -/

/-- The pattern held is that of the sounding entry. -/
abbrev HornSound (s : State) : Prop := s.alarm.horn = (soundingEntry s.alarm.list).map (·.horn)

namespace HornSound

variable {s t : State}

theorem of_eq (h : HornSound s) (horn : t.alarm.horn = s.alarm.horn) (list : t.alarm.list = s.alarm.list) :
    HornSound t := horn.trans (h.trans (by rw [list]))

theorem haltEntry (h : HornSound s) : HornSound s.haltEntry := by
  obtain e | e := State.haltEntry_cases s
  · exact e ▸ h
  · exact e ▸ (HornFollows.absent0 (s := s.setWalk (s.walk.haltEntry s.now)) h _).sound

theorem evaluate (h : HornSound s) (i : AlarmId) (b : Bool) : HornSound (s.evaluate i b) := by
  have evaluated : HornSound (s.evaluate0 i b) := (HornFollows.evaluate0 h i b).sound
  obtain ⟨-, e⟩ | ⟨-, -, e⟩ := State.evaluate_cases s i b
  · exact e ▸ evaluated
  · exact e ▸ evaluated.haltEntry

theorem withWalk (h : HornSound s) (w : WalkSeq) : HornSound (s.withWalk w) := by
  have changed : HornSound (s.setWalk w) := h
  simp only [State.withWalk]
  split
  · exact changed.evaluate _ _
  · exact changed

theorem setPageState (h : HornSound s) (id : PageId) (st : PageState) : HornSound (s.setPageState id st) :=
  State.setPageState_keeps id st h (fun _ _ h => h) (fun _ _ h => h) fun _ w h => h.withWalk w

theorem settle (h : HornSound s) : HornSound s.settle := h.of_eq (by simp) (by simp)

theorem changes {c : Instr} (h : HornSound s) (k : Changes c s t) : HornSound t := by
  induction k with
  | refl => exact h
  | tail _ k ih =>
    cases k with
    | settles => exact ih.settle
    | evaluate i b => exact ih.evaluate i b
    | walk w => exact ih.withWalk w
    | acknowledged e => exact (HornFollows.acknowledged ih e).sound
    | halts =>
      simp only [State.enterHalt]
      split
      · exact haltEntry (s := State.setAlarm _ _) ih
      · exact ih
    | writes id off data =>
      have stored {u : State} (hu : HornSound u) : HornSound (u.wordsStored id off data) := hu
      exact (stored ih).setPageState id .written
    | validates id => exact (ih.setPageState id .validating).of_eq rfl rfl
    | validated v st => exact (ih.setPageState v.page st).of_eq rfl rfl
    | fails id => exact ih.setPageState id .failed
    | _ => exact ih

end HornSound

theorem State.pinsNow_working {s : State} (working : s.phase = .working) :
    s.pinsNow = ⟨levelOf s.hornLine, levelOf s.almLine, levelOf (decide (s.mode = .run)), txLevel s.links.u.tx,
      txLevel s.links.d.tx⟩ := by
  rw [State.pinsNow, working]

namespace LinesFollow

variable {s t : State}

/-- The pins the part drives at work are those of the rules (R172). -/
theorem driven (sound : HornSound t) (working : t.phase = .working) (pins : t.pins = t.pinsNow) : LinesFollow t := by
  have now := pins.trans (State.pinsNow_working working)
  have severe (e : Entry) : decide (2 ≤ e.severity.code) = (decide (e.severity = .derate) || decide (e.severity = .stop)) := by
    cases e.severity <;> rfl
  refine ⟨fun _ => by rw [now], fun _ => ?_, fun _ => by rw [now]; rfl, fun _ => by rw [now]; rfl,
    fun _ => by rw [now]; rfl, sound, fun k => absurd working k⟩
  simp only [now, State.almLine, severe]

/-- The pins, the alarms, the time and the transmitters stand. -/
theorem of_eq (h : LinesFollow s) (phase : t.phase = s.phase) (pins : t.pins = s.pins) (alarm : t.alarm = s.alarm)
    (now : t.now = s.now) (tx : ∀ p, (t.port p).tx.map (·.item) = (s.port p).tx.map (·.item)) : LinesFollow t := by
  obtain ⟨stopn, alm, horn, utx, dtx, sound, reset⟩ := h
  have line (x y : Option Sending) (same : x.map (·.item) = y.map (·.item)) : txLevel x = txLevel y := by
    cases x <;> cases y <;> simp_all [txLevel]
  have up : txLevel t.links.u.tx = txLevel s.links.u.tx := line _ _ (tx .u)
  have down : txLevel t.links.d.tx = txLevel s.links.d.tx := line _ _ (tx .d)
  have mode : t.mode = s.mode := congrArg AlarmUnit.mode alarm
  rw [← pins, ← phase] at stopn alm horn utx dtx reset
  rw [← alarm] at alm horn sound
  rw [← mode] at stopn alm
  rw [← now] at horn
  exact ⟨stopn, alm, horn, fun work => (utx work).trans up.symm, fun work => (dtx work).trans down.symm, sound, reset⟩

/-- In a reset the lines stand as R191 gives. -/
theorem atRest (sound : HornSound t) (apart : t.phase ≠ .working) (pins : t.pins = Pins.rest) : LinesFollow t :=
  ⟨fun work => absurd work apart, fun work => absurd work apart, fun work => absurd work apart,
    fun work => absurd work apart, fun work => absurd work apart, sound, fun _ _ => pins⟩

theorem settled (sound : HornSound s) (working : s.phase = .working) : LinesFollow s.settle :=
  driven sound.settle (by rw [State.settle_phase, working]) (State.settle_pins s)

theorem changes_phase {c : Instr} (k : Changes c s t) : t.phase = s.phase := by
  induction k with
  | refl => rfl
  | tail _ k ih => exact k.phase.trans ih

theorem ran {c : Instr} (h : LinesFollow s) (k : Ran c s t) : LinesFollow t := by
  cases k with
  | idle => exact h
  | settled u working k => exact settled (HornSound.changes h.sound k) ((changes_phase k).trans working)
  | quiet _ working k pins alarm _ now tx =>
    exact h.of_eq (changes_phase k) pins alarm now fun p => by rw [tx p]
  | byte p rx =>
    cases p <;> exact h.of_eq rfl rfl rfl rfl (fun q => by cases q <;> rfl)
  | held p rx =>
    cases p <;> exact h.of_eq rfl rfl rfl rfl (fun q => by cases q <;> rfl)
  | assembled op =>
    obtain ⟨q', n, k, -, e⟩ := s.placeRef_links (composeFrame kindRef 0 (s.refWords op))
    rw [e]
    exact h.of_eq rfl rfl rfl rfl (fun p => by cases p <;> rfl)
  | restarts => exact atRest rfl nofun rfl
  | resumed u restarting k =>
    have resumed : HornSound s.resumed := by
      simp only [State.resumed]
      split <;> exact h.sound
    exact settled (resumed.changes k) ((changes_phase k).trans s.resumed_phase)
  | ticks working => exact driven h.sound working rfl
  | ticksRestarting k restarting => exact atRest h.sound nofun (h.reset (by simp [restarting]) (by simp [restarting]))
  | clock running cut =>
    cases cut with
    | false => exact h.of_eq rfl rfl rfl rfl fun _ => rfl
    | true => exact h.of_eq rfl rfl rfl rfl fun p => by cases p <;> exact Option.map_map ..
  | off => exact ⟨nofun, nofun, nofun, nofun, nofun, h.sound, fun _ k => absurd rfl k⟩
  | resets => exact atRest rfl nofun rfl
  | resetEnds => exact driven rfl rfl rfl

end LinesFollow

end Sys2Proof.Machine

open Sys2Proof Sys2Proof.Machine

/-- Settles O5: the pattern held is the sounding entry's after every change (`HornFollows`), and an event ends by driving
the pins (`LinesFollow.driven`) or leaves all that they show (`LinesFollow.of_eq`). -/
theorem linesFollowKept : Obligations.LinesFollowKept :=
  step_keeps (fun _ _ h => h.of_eq rfl rfl rfl rfl fun _ => rfl) fun _ _ _ h k => h.ran k

end

section
/-! PROOFS. The machine as a whole: every command completes, the reset state is sound, and the mode and the pages change
only as listed (R42, R165). -/

namespace Sys2Proof.Machine

/-! ### The queue of commands -/

theorem Change.pending {c : Instr} {s t : State} (k : Change c s t) : t.pending = s.pending := by
  cases k with
  | settles => exact State.settle_pending s
  | evaluate i b => exact State.evaluate_pending s i b
  | walk w => rw [State.withWalk_frame]; rfl
  | acknowledged e => rw [State.ackEntry_frame]; rfl
  | halts => rw [State.enterHalt_frame]; rfl
  | writes id off data => rw [State.writePage_eq, State.setPageState_frame]; rfl
  | validates id => rw [State.setPageState_frame]; rfl
  | validated v st => rw [State.setPageState_frame]; rfl
  | fails id => rw [State.setPageState_frame]
  | port p => cases p <;> rfl
  | _ => rfl

theorem Changes.pending {c : Instr} {s t : State} (k : Changes c s t) : t.pending = s.pending := by
  induction k with
  | refl => rfl
  | tail _ k ih => exact k.pending.trans ih

theorem Ran.pending {c : Instr} {s t : State} (k : Ran c s t) : t.pending = s.pending := by
  cases k with
  | settled u _ k => rw [State.settle_pending, k.pending]
  | quiet _ _ k => exact k.pending
  | resumed u _ k =>
    rw [State.settle_pending, k.pending]
    simp only [State.resumed]
    split <;> rfl
  | assembled op =>
    obtain ⟨q', n, k, -, e⟩ := s.placeRef_links (composeFrame kindRef 0 (s.refWords op))
    rw [e]
    rfl
  | byte p => cases p <;> rfl
  | held p => cases p <;> rfl
  | _ => rfl

/-! ### The reset state -/

theorem WalkSound.reset : WalkSound State.reset :=
  ⟨rfl, Nat.zero_le _, fun _ => rfl, Nat.zero_le _, nofun, nofun⟩

theorem NothingOwnWaits.reset : NothingOwnWaits State.reset := fun _ _ =>
  ⟨fun i => by simp [State.status, State.reset, State.afterReset, AlarmUnit.fresh, AlarmStatus.fresh], nofun⟩

theorem Sound.reset : Sound State.reset where
  lines := .driven rfl rfl rfl
  alarms := .empty rfl
  walk := .reset
  queues := .fresh (fun p => by cases p <;> exact ⟨rfl, rfl⟩) (Nat.zero_le _)
  references := .fresh rfl rfl rfl
  store := .blank rfl rfl
  arbiter := .reset
  image := .off (fun a => ⟨0, by cases a <;> rfl⟩) fun _ => rfl
  management := .fresh rfl (fun id => ManagementSound.blank_state id rfl) nofun (fun p => by cases p <;> exact ⟨rfl, rfl⟩)
  linkLoss := .running rfl rfl

/-! ### The mode (R165) -/

/-- What a chain of changes of a command other than GO can do to the mode. -/
def ModeMoves (c : Instr) (s t : State) : Prop :=
  (t.mode = .loading ↔ s.mode = .loading) ∧ (t.mode = .run → s.mode = .run ∨ c = .resume)

namespace ModeMoves

variable {c : Instr} {s t u : State}

theorem of_eq (h : t.mode = s.mode) : ModeMoves c s t := ⟨by rw [h], fun run => .inl (h ▸ run)⟩

theorem of_leave (h : t.mode = s.mode ∨ s.mode = .run ∧ t.mode = .halt) : ModeMoves c s t := by
  obtain same | ⟨run, halt⟩ := h
  · exact of_eq same
  · exact ⟨iff_of_false (by simp [halt]) (by simp [run]), fun _ => .inl run⟩

theorem trans (h : ModeMoves c s u) (k : ModeMoves c u t) : ModeMoves c s t :=
  ⟨k.1.trans h.1, fun run => (k.2 run).elim h.2 .inr⟩

theorem withWalk (s : State) (w : WalkSeq) : ModeMoves c s (s.withWalk w) := by
  simp only [State.withWalk]
  split
  · exact of_leave ((s.setWalk w).evaluate_mode _ _)
  · exact of_eq rfl

theorem setPageState (s : State) (id : PageId) (st : PageState) : ModeMoves c s (s.setPageState id st) :=
  State.setPageState_keeps (P := ModeMoves c s) id st (of_eq rfl) (fun _ _ h => h) (fun _ _ h => h)
    fun u w h => h.trans (withWalk u w)

theorem change (other : c ≠ .go) (k : Change c s t) : ModeMoves c s t := by
  cases k with
  | settles => exact of_eq (State.settle_mode s)
  | evaluate i b => exact of_leave (s.evaluate_mode i b)
  | walk w => exact withWalk s w
  | acknowledged e => exact of_eq (s.ackEntry_mode e)
  | halts =>
    refine of_leave ?_
    simp only [State.enterHalt]
    split
    · rename_i run
      exact .inr ⟨run, State.haltEntry_mode rfl⟩
    · exact .inl rfl
  | goes hc => exact absurd hc other
  | resumes hc halted => exact ⟨iff_of_false nofun (by simp [halted]), fun _ => .inr hc⟩
  | writes id off data => exact (of_eq rfl : ModeMoves c s (s.wordsStored id off data)).trans (setPageState _ id .written)
  | validates id => exact (setPageState s id .validating).trans (of_eq rfl)
  | validated v st => exact (setPageState s v.page st).trans (of_eq rfl)
  | fails id => exact setPageState s id .failed
  | _ => exact of_eq rfl

theorem changes (other : c ≠ .go) (k : Changes c s t) : ModeMoves c s t := by
  induction k with
  | refl => exact of_eq rfl
  | tail _ k ih => exact ih.trans (change other k)

/-- Where the mode moved and no reset put it in LOADING, it moved as listed. -/
theorem listed (h : ModeMoves c s t) (moved : t.mode ≠ s.mode) :
    (t.mode = .run → c = .go ∨ c = .resume) ∧ (t.mode = .halt → s.mode = .run) ∧ t.mode ≠ .loading := by
  obtain ⟨loading, run⟩ := h
  refine ⟨fun runs => ?_, fun halts => ?_, fun loads => moved (loads.trans (loading.mp loads).symm)⟩
  · exact .inr ((run runs).resolve_left fun old => moved (runs.trans old.symm))
  · cases old : s.mode with
    | run => rfl
    | loading => rw [loading.mpr old] at halts; cases halts
    | halt => exact absurd (halts.trans old.symm) moved

end ModeMoves

/-- GO leaves the mode or makes it RUN (R166). -/
theorem State.go_mode (s : State) : (s.after .go).mode = s.mode ∨ (s.after .go).mode = .run := by
  have owner (args : List Word) (u : State) : (ownGo args u).1.mode = u.mode ∨ (ownGo args u).1.mode = .run := by
    simp only [ownGo]
    split
    · exact .inl rfl
    · split
      · exact .inl rfl
      · split
        · exact .inl rfl
        · exact .inr rfl
  have settled (u : State) (unit : MgmtUnit) : (u.busyWith unit).settle.mode = u.mode := State.settle_mode _
  have served : s.after .go = s.serve 6 (exactly 0) ownGo := rfl
  simp only [served, State.serve, State.atWork]
  split
  · split
    · exact .inl rfl
    · split
      · split
        · rw [settled]
          exact owner _ s.takeRequest
        · rw [settled]
          exact .inl rfl
      · exact .inl rfl
  · exact .inl rfl

/-- An event moves the mode only as listed (R165). -/
theorem Ran.modeMoves {c : Instr} {s t : State} (other : c ≠ .go) (k : Ran c s t) :
    ModeMoves c s t ∨ (t.mode = .loading ∧ (c = .powerOnReset ∨ (∃ ns, c = .pinReset ns) ∨ (∃ straps, c = .resetEnd straps)
      ∨ ∃ p, c = .transmitComplete p)) := by
  cases k with
  | settled u _ k => exact .inl ((ModeMoves.changes other k).trans (.of_eq (State.settle_mode u)))
  | quiet _ _ k => exact .inl (.changes other k)
  | resumed u _ k =>
    have resumed : s.resumed.mode = s.mode := by
      simp only [State.resumed]
      split <;> rfl
    exact .inl (((ModeMoves.of_eq resumed).trans (.changes other k)).trans (.of_eq (State.settle_mode u)))
  | assembled op =>
    obtain ⟨q', n, k, -, e⟩ := s.placeRef_links (composeFrame kindRef 0 (s.refWords op))
    rw [e]
    exact .inl (.of_eq rfl)
  | restarts p _ hc => exact .inr ⟨rfl, .inr (.inr (.inr ⟨p, hc⟩))⟩
  | resets _ hc => exact .inr ⟨rfl, hc.imp_right .inl⟩
  | resetEnds _ straps hc => exact .inr ⟨rfl, .inr (.inr (.inl ⟨straps, hc⟩))⟩
  | _ => exact .inl (.of_eq rfl)

/-! ### The pages (R42) -/

/-- What a chain of changes can do to a page. -/
def PageMoves (c : Instr) (s t : State) (id : PageId) : Prop :=
  ((t.page id).words = (s.page id).words ∨ c = .writePage)
    ∧ ((t.page id).state = .valid → (s.page id).state = .valid ∨ c = .validationComplete)
    ∧ ((t.page id).state = .failed → (s.page id).state = .failed ∨ c = .scanAdvance ∧ (s.page id).state = .valid)

namespace PageMoves

variable {c : Instr} {s t u : State} {id : PageId}

theorem of_eq (h : t.page id = s.page id) : PageMoves c s t id :=
  ⟨.inl (by rw [h]), fun k => .inl (h ▸ k), fun k => .inl (h ▸ k)⟩

theorem of_store (h : t.store = s.store) : PageMoves c s t id := of_eq (by rw [State.page, h]; rfl)

theorem trans (h : PageMoves c s u id) (k : PageMoves c u t id) : PageMoves c s t id := by
  obtain ⟨words, valid, failed⟩ := h
  obtain ⟨words', valid', failed'⟩ := k
  refine ⟨?_, fun now => (valid' now).elim valid .inr, fun now => ?_⟩
  · obtain same | written := words'
    · exact same ▸ words
    · exact .inr written
  · obtain before | ⟨scan, before⟩ := failed' now
    · exact failed before
    · obtain before | complete := valid before
      · exact .inr ⟨scan, before⟩
      · cases scan.symm.trans complete

/-- A page other than `j` keeps its state, and none its words. -/
theorem setPageState (s : State) (j : PageId) (st : PageState) (valid : st = .valid → c = .validationComplete)
    (failed : st = .failed → c = .scanAdvance ∧ (s.page j).state = .valid) : PageMoves c s (s.setPageState j st) id := by
  by_cases same : id = j
  · subst same
    refine ⟨.inl ?_, fun k => .inr (valid ?_), fun k => .inr (failed ?_)⟩
    · rw [State.setPageState_page]
    · rwa [State.setPageState_page] at k
    · rwa [State.setPageState_page] at k
  · exact of_eq (State.setPageState_page_ne s j id st same)

theorem change (k : Change c s t) : PageMoves c s t id := by
  cases k with
  | settles => exact of_store (State.settle_store s)
  | evaluate i b => exact of_store (State.evaluate_store s i b)
  | walk w => exact of_store (State.withWalk_store s w)
  | acknowledged e => exact of_store (by rw [State.ackEntry_frame]; rfl)
  | halts => exact of_store (by rw [State.enterHalt_frame]; rfl)
  | store x k => cases k <;> exact of_eq (by cases id <;> rfl)
  | goes => exact of_eq (by cases id <;> rfl)
  | writes j off data hc =>
    have stored : PageMoves c s (s.wordsStored j off data) id := by
      by_cases same : id = j
      · subst same
        have page : (s.wordsStored id off data).page id
            = { s.page id with words := Memory.writeFrom (s.page id).words off data } := Store.page_setPage _ _ _
        exact ⟨.inr hc, fun k => .inl (by rwa [page] at k), fun k => .inl (by rwa [page] at k)⟩
      · exact of_eq (Store.page_setPage_ne _ _ same)
    exact stored.trans (setPageState _ j .written nofun nofun)
  | validates j => exact (setPageState s j .validating nofun nofun).trans (of_eq rfl)
  | validated v st _ _ outcome =>
    refine (setPageState s v.page st (fun valid => ?_) fun failed => ?_).trans (of_eq rfl)
    · exact (outcome.resolve_left (by simp [valid])).2
    · obtain rfl | ⟨rfl, -⟩ := outcome <;> cases failed
  | fails j hc valid => exact setPageState s j .failed nofun fun _ => ⟨hc, by simpa [State.pageValid] using valid⟩
  | _ => exact of_eq rfl

theorem changes (k : Changes c s t) : PageMoves c s t id := by
  induction k with
  | refl => exact of_eq rfl
  | tail _ k ih => exact ih.trans (change k)

theorem listed (h : PageMoves c s t id) :
    ((t.page id).words ≠ (s.page id).words →
      c = .writePage ∨ c = .powerOnReset ∨ (∃ ns, c = .pinReset ns) ∨ ∃ straps, c = .resetEnd straps)
    ∧ ((t.page id).state = .valid → (s.page id).state ≠ .valid → c = .validationComplete)
    ∧ ((t.page id).state = .failed → (s.page id).state ≠ .failed → c = .scanAdvance ∧ (s.page id).state = .valid) := by
  obtain ⟨words, valid, failed⟩ := h
  exact ⟨fun changed => .inl (words.resolve_left changed), fun now before => (valid now).resolve_left before,
    fun now before => (failed now).resolve_left before⟩

end PageMoves

/-- An event changes a page only as listed, or empties the store by a reset (R42, R60). -/
theorem Ran.pageMoves {c : Instr} {s t : State} (k : Ran c s t) (id : PageId) :
    PageMoves c s t id ∨ (t.page id = Page.blank
      ∧ (c = .powerOnReset ∨ (∃ ns, c = .pinReset ns) ∨ ∃ straps, c = .resetEnd straps)) := by
  cases k with
  | settled u _ k => exact .inl ((PageMoves.changes k).trans (.of_store (State.settle_store u)))
  | quiet _ _ k => exact .inl (.changes k)
  | resumed u _ k =>
    have resumed : s.resumed.store = s.store := by
      simp only [State.resumed]
      split <;> rfl
    exact .inl (((PageMoves.of_store resumed).trans (.changes k)).trans (.of_store (State.settle_store u)))
  | assembled op =>
    obtain ⟨q', n, k, -, e⟩ := s.placeRef_links (composeFrame kindRef 0 (s.refWords op))
    rw [e]
    exact .inl (.of_eq rfl)
  | restarts => exact .inl (.of_eq (by cases id <;> rfl))
  | resets _ hc => exact .inr ⟨State.page_blank rfl id, hc.imp_right .inl⟩
  | resetEnds _ straps hc => exact .inr ⟨State.page_blank rfl id, .inr (.inr ⟨straps, hc⟩)⟩
  | ticks => exact .inl (.of_eq (by cases id <;> rfl))
  | _ => exact .inl (.of_eq rfl)

end Sys2Proof.Machine

open Sys2Proof Sys2Proof.Machine

/-- Settles O1: every command answers a next state (`exec_eq`), and no event touches the queue (`Ran.pending`). -/
theorem stepRunsFrontCommand : Obligations.StepRunsFrontCommand := by
  refine ⟨⟨fun c rest s front => ?_, fun s empty => ?_⟩, fun c s => ⟨_, exec_eq c s, (s.ran c).pending⟩⟩
  · rw [step, front]
  · rw [step, empty]

/-- Settles O2, invariant by invariant. -/
theorem resetIsSound : Obligations.ResetIsSound := Sound.reset

/-- Settles O3: a chain of changes leaves LOADING only for GO, and enters RUN only for GO or RESUME (`ModeMoves.change`). -/
theorem modeMovesOnlyAsListed : Obligations.ModeMovesOnlyAsListed := by
  intro c s t h moved
  rw [exec_eq] at h
  cases h
  by_cases go : c = .go
  · subst go
    have run := s.go_mode.resolve_left moved
    exact ⟨fun _ => .inl rfl, fun halt => absurd (run.symm.trans halt) nofun,
      fun loading => absurd (run.symm.trans loading) nofun⟩
  · obtain moves | ⟨loading, resets⟩ := (s.ran c).modeMoves go
    · obtain ⟨run, halt, other⟩ := moves.listed moved
      exact ⟨run, halt, fun loading => absurd loading other⟩
    · exact ⟨fun run => absurd (loading.symm.trans run) nofun, fun halt => absurd (loading.symm.trans halt) nofun,
        fun _ => resets⟩

/-- Settles O4: an elementary change writes words only for WRITE_PAGE, makes a page VALID only where a validation completes
and FAILED only for the scan (`PageMoves.change`). -/
theorem pagesChangeOnlyAsListed : Obligations.PagesChangeOnlyAsListed := by
  intro c s t id h
  rw [exec_eq] at h
  cases h
  obtain moves | ⟨blank, resets⟩ := (s.ran c).pageMoves id
  · exact moves.listed
  · rw [blank]
    exact ⟨fun _ => .inr resets, nofun, nofun⟩

end

section
/-! PROOFS. Frames are read back from their bytes, and bytes from their characters (R1 to R5). -/

namespace Sys2Proof.Machine

/-! ### The bytes after SYNC -/

theorem Frame.bytes_drop_one (f : Frame) :
    f.bytes.drop 1 = f.kind :: f.station :: BitVec.ofNat 8 f.words.length
      :: (bytesOfWords f.words ++ [hiByte f.check, loByte f.check]) := rfl

theorem Frame.bytes_length (f : Frame) : f.bytes.length = 6 + 2 * f.words.length := by
  simp [Frame.bytes, coveredBytes]
  omega

theorem Frame.length_drop_one (f : Frame) : (f.bytes.drop 1).length = 5 + 2 * f.words.length := by
  rw [List.length_drop, f.bytes_length]
  omega

theorem length_byte_toNat {f : Frame} (short : f.words.length ≤ 60) :
    (BitVec.ofNat 8 f.words.length).toNat = f.words.length := by
  rw [BitVec.toNat_ofNat]
  omega

theorem Frame.lengthByte_bytes {f : Frame} (short : f.words.length ≤ 60) :
    lengthByte (f.bytes.drop 1) = some f.words.length := by
  rw [f.bytes_drop_one]
  exact congrArg some (length_byte_toNat short)

theorem Frame.endsComplete_bytes {f : Frame} (short : f.words.length ≤ 60) : endsComplete (f.bytes.drop 1) = true := by
  rw [endsComplete, lengthByte_bytes short, f.length_drop_one]
  simp [Config.maxLength, short]

/-- Before its last byte a frame's LENGTH byte is its own or has not come (R5). -/
theorem Frame.stillOpen_prefix {f : Frame} (short : f.words.length ≤ 60) {got : List Byte} (begins : got <+: f.bytes.drop 1)
    (proper : got ≠ f.bytes.drop 1) : stillOpen got = true := by
  have shorter : got.length < 5 + 2 * f.words.length := by
    have := begins.length_le
    rw [f.length_drop_one] at this
    refine this.lt_of_ne fun same => proper (begins.eq_of_length ?_)
    rw [f.length_drop_one, same]
  simp only [stillOpen, lengthByte]
  cases third : got[2]? with
  | none => rfl
  | some l =>
    obtain ⟨rest, whole⟩ := begins
    have own : lengthByte (f.bytes.drop 1) = some l.toNat := by
      rw [lengthByte, ← whole, List.getElem?_append_left (List.getElem?_eq_some_iff.mp third).1, third]
      rfl
    rw [f.lengthByte_bytes short, Option.some_inj] at own
    simp [← own, Config.maxLength, short, shorter]

theorem Frame.frameOfBytes_bytes {f : Frame} (short : f.words.length ≤ 60) : frameOfBytes (f.bytes.drop 1) = f := by
  have payload : (bytesOfWords f.words ++ [hiByte f.check, loByte f.check]).take (2 * f.words.length)
      = bytesOfWords f.words := List.take_left' (bytesOfWords_length _)
  simp only [frameOfBytes, lengthByte_bytes short, Option.getD_some]
  rw [f.bytes_drop_one]
  have high : (bytesOfWords f.words ++ [hiByte f.check, loByte f.check]).getD (2 * f.words.length) 0 = hiByte f.check := by
    rw [List.getD_append_right _ _ _ _ (by simp), bytesOfWords_length, Nat.sub_self]
    rfl
  have low : (bytesOfWords f.words ++ [hiByte f.check, loByte f.check]).getD (2 * f.words.length + 1) 0
      = loByte f.check := by
    rw [List.getD_append_right _ _ _ _ (by simp), bytesOfWords_length, Nat.add_sub_cancel_left]
    rfl
  simp only [List.drop_succ_cons, List.drop_zero, payload, wordsOfBytes_bytesOfWords, high, low, ofBytes_hiByte_loByte]
  rfl

/-! ### The check word (R3) -/

/-- Fed its own leading bit, the register shifts. -/
theorem crcBit_own (r : Word) (k : Nat) (h : k < 16) : crcBit (r <<< k) (r.getLsbD (15 - k)) = r <<< (k + 1) := by
  have lead : (r <<< k).msb = r.getLsbD (15 - k) := by
    rw [BitVec.msb_eq_getLsbD_last, BitVec.getLsbD_shiftLeft, decide_eq_false (by omega : ¬16 - 1 < k)]
    simp
  rw [crcBit, lead, Bool.xor_self, if_neg (by decide), BitVec.shiftLeft_add]

/-- The register run on through its own two bytes is 0. -/
theorem crcByte_own (r : Word) : crcByte (crcByte r (hiByte r)) (loByte r) = 0 := by
  have high (i : Nat) (h : i < 8) : (hiByte r).getLsbD i = r.getLsbD (8 + i) := by
    simp [hiByte, h]
  have low (i : Nat) (h : i < 8) : (loByte r).getLsbD i = r.getLsbD i := by
    simp [loByte, h]
  have first : crcByte r (hiByte r) = r <<< 8 := by
    simp only [crcByte, List.foldl_cons, List.foldl_nil, high, Nat.reduceLT]
    have step := crcBit_own r
    have zero : crcBit r (r.getLsbD 15) = r <<< 1 := by simpa using step 0 (by decide)
    rw [zero, step 1 (by decide), step 2 (by decide), step 3 (by decide), step 4 (by decide), step 5 (by decide),
      step 6 (by decide), step 7 (by decide)]
  have step := crcBit_own r
  rw [first]
  simp only [crcByte, List.foldl_cons, List.foldl_nil, low, Nat.reduceLT]
  rw [step 8 (by decide), step 9 (by decide), step 10 (by decide), step 11 (by decide), step 12 (by decide),
    step 13 (by decide), step 14 (by decide), step 15 (by decide)]
  exact BitVec.shiftLeft_eq_zero (by decide)

theorem Frame.register_through {f : Frame} (ok : f.checkOk = true) : (f.bytes.drop 1).foldl crcByte 0xFFFF = 0 := by
  have own : f.check = (coveredBytes f.kind f.station f.words).foldl crcByte 0xFFFF := eq_of_beq ok
  have split : f.bytes.drop 1 = coveredBytes f.kind f.station f.words ++ [hiByte f.check, loByte f.check] := rfl
  rw [split, List.foldl_append, ← own]
  exact crcByte_own f.check

/-! ### Characters (R1) -/

theorem characterOf_length (b : Byte) : (characterOf b).length = 10 := rfl

theorem levels_length (bytes : List Byte) : (bytes.flatMap characterOf).length = 10 * bytes.length := by
  simp [List.length_flatMap, characterOf_length, Nat.mul_comm]

/-- The characters stand back to back, ten levels each. -/
theorem levels_drop (bytes : List Byte) (k : Nat) (b : Byte) (at_k : bytes[k]? = some b) :
    ((bytes.flatMap characterOf).drop (10 * k)).take 10 = characterOf b := by
  induction bytes generalizing k with
  | nil => cases at_k
  | cons first rest ih =>
    rw [List.flatMap_cons]
    cases k with
    | zero =>
      cases at_k
      exact List.take_left' (characterOf_length _)
    | succ k =>
      have further : 10 * (k + 1) = (characterOf first).length + 10 * k := by rw [characterOf_length]; omega
      rw [further, List.drop_length_add_append]
      exact ih k at_k

/-- The byte is taken from the data bits of its character, whatever the stop bit. -/
theorem byteOfCharacter_characterOf (b : Byte) (stop : Bool) :
    byteOfCharacter ((characterOf b).take 9 ++ [stop]) = b := by
  have data : (((characterOf b).take 9 ++ [stop]).drop 1).take 8 = [0, 1, 2, 3, 4, 5, 6, 7].map b.getLsbD := rfl
  have order : (fun (bit : Bool) (n : Nat) => bit.toNat + 2 * n) = fun bit n => 2 * n + bit.toNat := by
    funext bit n
    exact Nat.add_comm _ _
  rw [byteOfCharacter, data, order]
  refine BitVec.eq_of_getLsbD_eq fun i hi => ?_
  rw [BitVec.getLsbD_ofNat, testBit_foldr]
  interval_cases i <;> rfl

end Sys2Proof.Machine

open Sys2Proof Sys2Proof.Machine

/-- Settles O13: the bytes after SYNC spell the frame (`Frame.frameOfBytes_bytes`), the register shifts out its own bits
(`crcByte_own`), and the characters stand back to back (`levels_drop`). -/
theorem framesReadBack : Obligations.FramesReadBack := by
  intro f short
  have duration : f.durationNs = 2500 * (6 + 2 * f.words.length) := congrArg (2500 * ·) f.bytes_length
  have levels : f.levels.length = 10 * f.bytes.length := levels_length _
  refine ⟨f.bytes_length, rfl, f.endsComplete_bytes short, f.frameOfBytes_bytes short,
    fun got begins proper => Frame.stillOpen_prefix short begins proper, f.register_through, levels, duration, ?_,
    fun k b at_k => ⟨levels_drop _ k b at_k, fun stop => ?_⟩⟩
  · rw [duration, levels, f.bytes_length, Config.bitNs]
    omega
  · rw [show f.levels = f.bytes.flatMap characterOf from rfl, levels_drop _ k b at_k]
    exact byteOfCharacter_characterOf b stop

end

section
/-! PROOFS. Bytes taken, the time base, the resets, the clock and the supply, and the outgoing REF placed: commands whose
next state is known exactly. -/

namespace Sys2Proof.Machine

/-! ### When a command's event takes place -/

theorem State.working_iff (s : State) : s.working = true ↔ s.phase = .working ∧ s.clk = true := by
  simp [State.working]

theorem State.atWork_of_working {s : State} (h : s.working = true) (f : State → State) : s.atWork f = f s := if_pos h

theorem State.atWork_of_not_working {s : State} (h : s.working = false) (f : State → State) : s.atWork f = s :=
  if_neg (by simp [h])

/-- While CLK is stopped the part neither works nor receives (R192). -/
theorem State.stopped {s : State} (h : s.clk = false) : s.working = false ∧ s.receiving = false := by
  simp [State.working, State.receiving, h]

theorem State.receiving_of {s : State} (clk : s.clk = true) (phase : s.phase = .working ∨ ∃ k, s.phase = .restarting k) :
    s.receiving = true := by
  obtain phase | ⟨k, phase⟩ := phase <;> simp [State.receiving, clk, phase]

/-- While CLK is stopped a command of the work leaves the part where it stood (R192). -/
theorem State.after_of_stopped {s : State} {c : Instr} (h : s.clk = false) (stop : c ≠ .clockStop)
    (restart : c ≠ .clockRestart) (supply : c ≠ .supplyLoss) (power : c ≠ .powerOnReset) (pin : ∀ ns, c ≠ .pinReset ns)
    (straps : ∀ straps, c ≠ .resetEnd straps) : s.after c = s := by
  obtain ⟨idle, deaf⟩ := s.stopped h
  cases c with
  | frameStart p b => exact if_neg (by simp [deaf])
  | badLength p bytes =>
    show badLength p bytes s = s
    simp only [badLength, deaf, Bool.false_and, Bool.false_eq_true, if_false]
    split <;> rfl
  | frameComplete p bytes =>
    show frameComplete p bytes s = s
    simp only [frameComplete, deaf, Bool.false_and, Bool.false_eq_true, if_false]
    split <;> rfl
  | truncated p bytes ns =>
    show truncated p bytes ns s = s
    simp only [truncated, deaf, Bool.false_and, Bool.false_eq_true, if_false]
    split <;> rfl
  | timeBaseAdvance => exact if_neg (by simp [h])
  | restartEnd => exact if_neg (by simp [h])
  | clockStop => exact absurd rfl stop
  | clockRestart => exact absurd rfl restart
  | supplyLoss => exact absurd rfl supply
  | powerOnReset => exact absurd rfl power
  | pinReset ns => exact absurd rfl (pin ns)
  | resetEnd x => exact absurd rfl (straps x)
  | _ => exact if_neg (by simp [idle])

/-! ### The bytes of a frame in progress (R5) -/

/-- A LENGTH byte that has come is at most 60, and the bytes have not reached the last: the frame is in progress. -/
theorem stillOpen_iff (got : List Byte) :
    stillOpen got = true ↔ ∀ l, got[2]? = some l → l.toNat ≤ 60 ∧ got.length < 5 + 2 * l.toNat := by
  simp only [stillOpen, lengthByte]
  cases got[2]? with
  | none => simp
  | some l =>
    have test : (decide (l.toNat ≤ 60) && decide (got.length < 5 + 2 * l.toNat)) = true
        ↔ l.toNat ≤ 60 ∧ got.length < 5 + 2 * l.toNat := by rw [Bool.and_eq_true, decide_eq_true_iff, decide_eq_true_iff]
    exact test.trans ⟨fun h _ e => Option.some.inj e ▸ h, fun h => h l rfl⟩

/-! ### The time base -/

/-- The state after an advance of the time base at work, the pins apart (R22, R46, R57). -/
def State.ticked (s : State) : State :=
  (s.tick.setMgmt { s.mgmt with unit := s.validationAdvance }).setStore
    { s.store with scanDue := s.store.scan.isSome && decide (s.mode ≠ .loading) }

theorem timeBaseAdvance_working {s : State} (working : s.working = true) : timeBaseAdvance s = s.ticked.drive := by
  obtain ⟨phase, clk⟩ := s.working_iff.mp working
  simp only [timeBaseAdvance, clk, phase, if_true]
  rfl

end Sys2Proof.Machine

open Sys2Proof Sys2Proof.Machine

/-- Settles O14, by the receiver's state. -/
theorem receiverTakesBytes : Obligations.ReceiverTakesBytes := by
  intro p b s clk phase
  have hears := State.receiving_of clk phase
  have taken : exec (.frameStart p b) s = .next (frameStart p b s) := rfl
  simp only [taken, frameStart, hears, if_true]
  refine ⟨fun hunting other => ?_, fun hunting sync => ?_, fun got inFrame room => ?_⟩
  · simp only [hunting]
    rw [if_neg (show b ≠ Config.sync from other)]
  · simp only [hunting]
    rw [if_pos (show b = Config.sync from sync)]
  · simp only [inFrame]
    rw [if_pos ((stillOpen_iff _).mpr room)]

/-- Settles O27, by phase. -/
theorem timeBaseAdvances : Obligations.TimeBaseAdvances := by
  intro s
  refine ⟨fun working => ⟨_, congrArg Host.Outcome.next (timeBaseAdvance_working working), rfl, fun v unit => ?_, fun other => ?_, rfl, ?_, ?_⟩,
    fun k restarting clk => ?_, fun still => ?_⟩
  · show s.validationAdvance = _
    rw [State.validationAdvance, unit]
    rfl
  · show s.validationAdvance = _
    rw [State.validationAdvance]
    split
    · rename_i v unit
      exact absurd unit (other v)
    · rename_i unit; exact unit.symm
    · rename_i unit; exact unit.symm
    · rename_i unit; exact unit.symm
  · have phase := (s.working_iff.mp working).1
    exact congrArg Pins.horn (State.pinsNow_working (s := s.ticked) phase)
  · rfl
  · show Host.Outcome.next (timeBaseAdvance s) = _
    rw [timeBaseAdvance, if_pos clk, restarting]
    rfl
  · show Host.Outcome.next (timeBaseAdvance s) = _
    rw [timeBaseAdvance]
    obtain stopped | off | ⟨k, resetting⟩ := still
    · rw [stopped]; rfl
    · rw [off]; split <;> rfl
    · rw [resetting]; split <;> rfl

/-- Settles O28: the state in a reset and at its end is written out (`State.enterReset`, `State.afterReset`). -/
theorem resetTakesEffectAndEnds : Obligations.ResetTakesEffectAndEnds := by
  refine ⟨fun c k s cause => ⟨?_, fun ns short => ?_, fun ns b resetting => ?_⟩, fun k straps s resetting => ?_⟩
  · have entered : exec c s = .next (s.enterReset k) := by
      obtain ⟨rfl, rfl⟩ | ⟨ns, rfl, rfl, long, phase⟩ := cause
      · rfl
      · show Host.Outcome.next (pinReset ns s) = _
        rw [pinReset, if_neg (show ¬ns < Config.resetLowNs from not_lt.mpr long)]
        obtain phase | ⟨b, phase⟩ := phase <;> rw [phase]
    refine ⟨_, entered, rfl, rfl, rfl, rfl, fun p => ?_, rfl, rfl, rfl, rfl, rfl, rfl, rfl, rfl⟩
    cases p <;> exact ⟨rfl, rfl, rfl, rfl⟩
  · exact congrArg _ (if_pos short)
  · show Host.Outcome.next (pinReset ns s) = _
    rw [pinReset, resetting]
    split <;> rfl
  · have ended : exec (.resetEnd straps) s
        = .next { State.afterReset k (stationOfStraps straps) with pending := s.pending, clk := s.clk } := by
      show Host.Outcome.next (resetEnd straps s) = _
      rw [resetEnd, resetting]
    refine ⟨_, ended, rfl, rfl, rfl, rfl, ?_, rfl, rfl, rfl, fun a => by cases a <;> rfl, State.page_blank rfl, rfl, rfl, rfl,
      rfl, rfl, rfl, rfl, rfl, rfl, rfl, rfl, rfl, rfl, rfl, rfl, rfl, rfl, rfl, rfl, rfl, fun i => ?_, rfl⟩
    · simp only [State.afterReset, stationOfStraps, BitVec.toNat_eq]
      rfl
    · exact Vector.getElem_replicate ..

/-- Settles O30: the three commands by definition, the others by `State.after_of_stopped`. -/
theorem clockAndSupply : Obligations.ClockAndSupply := by
  refine fun s => ⟨rfl, rfl, rfl, fun c stopped stop restart supply power pin straps => ?_⟩
  rw [exec_eq, State.after_of_stopped stopped stop restart supply power pin straps]

/-- Settles O36, by the three cases of `State.placeRef`. -/
theorem assemblyPlacesRef : Obligations.AssemblyPlacesRef := by
  intro op s next
  obtain ⟨working, current, stage⟩ := next
  have placed : exec .assembly s
      = .next ((s.placeRef (composeFrame kindRef 0 (s.refWords op))).setGov (s.gov.afterAssembly op)) := by
    show Host.Outcome.next (assembly s) = _
    rw [assembly, State.atWork_of_working working]
    simp only [current, stage, if_true]
  have any : s.links.d.txQueue.any TxFrame.isRef = true ↔ ∃ x ∈ s.links.d.txQueue, x.origin = .reference := by simp
  simp only [← any, placed]
  refine ⟨fun waits => ?_, fun none room => ?_, fun none full => ?_⟩
  · rw [State.placeRef_replaces _ waits]
    simp only [TxFrame.isRef, decide_eq_true_eq]
    rfl
  · rw [State.placeRef_joins _ none room]
    rfl
  · rw [State.placeRef_displaces _ none (not_lt.mpr full)]
    rfl

end

section
/-! PROOFS. The arithmetic of the rope stage: lookup, interpolation, zone and modifiers (R80 to R89). -/

namespace Sys2Proof.Machine

/-! ### Lookup (R80, R81) -/

section
variable {x x0 step n : Nat}

theorem gridLookup_at_or_below (h : x ≤ x0) : gridLookup x x0 step n = ⟨0, 0, decide (x < x0)⟩ := if_pos h

theorem gridLookup_at_or_beyond (above : x0 < x) (h : x0 + (n - 1) * step ≤ x) :
    gridLookup x x0 step n = ⟨n - 2, 256, decide (x0 + (n - 1) * step < x)⟩ := by
  rw [gridLookup, if_neg above.not_ge, if_pos h]

theorem gridLookup_within (above : x0 < x) (h : x < x0 + (n - 1) * step) :
    gridLookup x x0 step n = ⟨(x - x0) / step, (x - x0 - (x - x0) / step * step) * 256 / step, false⟩ := by
  rw [gridLookup, if_neg above.not_ge, if_neg h.not_ge]

/-- Within the grid the index is that of the line at or below the payout, and the fraction less than a whole step. -/
theorem gridLookup_within_bounds (pos : 0 < step) (above : x0 < x) (h : x < x0 + (n - 1) * step) :
    (x - x0) / step < n - 1 ∧ x0 + (x - x0) / step * step ≤ x ∧ x < x0 + ((x - x0) / step + 1) * step
      ∧ (x - x0 - (x - x0) / step * step) * 256 / step ≤ 255 := by
  have index : (x - x0) / step < n - 1 := (Nat.div_lt_iff_lt_mul pos).mpr (by omega)
  have low := Nat.div_mul_le_self (x - x0) step
  have rest := Nat.lt_div_mul_add (a := x - x0) pos
  have next : ((x - x0) / step + 1) * step = (x - x0) / step * step + step := Nat.succ_mul ..
  refine ⟨index, by omega, by omega, Nat.le_of_lt_succ ((Nat.div_lt_iff_lt_mul pos).mpr ?_)⟩
  rw [Nat.mul_comm _ 256]
  exact Nat.mul_lt_mul_of_pos_left (by omega) (by decide)

end

/-! ### Interpolation (R82) -/

/-- A weighted mean of two numbers lies between two bounds of both. -/
theorem weighted_between {a b f lo hi : Nat} (hf : f ≤ 256) (ha : lo ≤ a ∧ a ≤ hi) (hb : lo ≤ b ∧ b ≤ hi) :
    lo * 256 ≤ a * (256 - f) + b * f ∧ a * (256 - f) + b * f ≤ hi * 256 := by
  obtain ⟨g, whole⟩ := Nat.exists_eq_add_of_le hf
  rw [show 256 - f = g by omega, whole, Nat.add_comm f g, Nat.mul_add, Nat.mul_add]
  exact ⟨Nat.add_le_add (Nat.mul_le_mul_right _ ha.1) (Nat.mul_le_mul_right _ hb.1),
    Nat.add_le_add (Nat.mul_le_mul_right _ ha.2) (Nat.mul_le_mul_right _ hb.2)⟩

theorem interpolate_between {l00 l10 l01 l11 fh fd lo hi : Nat} (hh : fh ≤ 256) (hd : fd ≤ 256)
    (h00 : lo ≤ l00 ∧ l00 ≤ hi) (h10 : lo ≤ l10 ∧ l10 ≤ hi) (h01 : lo ≤ l01 ∧ l01 ≤ hi) (h11 : lo ≤ l11 ∧ l11 ≤ hi) :
    lo ≤ interpolate l00 l10 l01 l11 fh fd ∧ interpolate l00 l10 l01 l11 fh fd ≤ hi := by
  have whole := weighted_between hd (weighted_between hh h00 h10) (weighted_between hh h01 h11)
  simp only [interpolate]
  omega

/-! ### What the stage works from (R79) -/

theorem AxisRecord.isFresh_iff (r : AxisRecord) : r.isFresh = true ↔ r.state = .fresh := decide_eq_true_iff

theorem State.usableTable_iff (s : State) : s.usableTable = true ↔
    s.pageValid s.activePage = true ∧ s.image.hoist.state = .fresh ∧ s.image.drag.state = .fresh := by
  simp only [State.usableTable, Bool.and_eq_true, AxisRecord.isFresh_iff, and_assoc]
  rfl

theorem State.baseLimit_of_usable {s : State} (h : s.usableTable = true) (l : Limit) :
    s.baseLimit l = limitAt s.profileWords s.hoistLookup s.dragLookup l := if_pos h

theorem State.baseLimit_of_not_usable {s : State} (h : ¬s.usableTable = true) (l : Limit) :
    s.baseLimit l = s.creepLimit := if_neg h

/-! ### The modifiers (R85 to R89) -/

theorem State.tightline_iff (s : State) (ch cd : Int) : s.tightline ch cd = true ↔
    s.usableTable = true ∧ 0 < ch ∧ 0 < cd ∧ proHoistTightline.read s.profileWords ≤ s.image.hoist.tension
      ∧ proDragTightline.read s.profileWords ≤ s.image.drag.tension := by
  simp only [State.tightline, Bool.and_eq_true, decide_eq_true_eq, and_assoc]
  rfl

theorem State.overload_iff (s : State) :
    s.overload = true ↔ s.image.hoist.state = .fresh ∧ s.overloadTension ≤ s.image.hoist.tension := by
  simp only [State.overload, Bool.and_eq_true, decide_eq_true_eq, AxisRecord.isFresh_iff]
  rfl

theorem State.gatedHold_iff (s : State) : s.gatedHold = true ↔
    s.usableTable = true ∧ s.image.swing.state = .fresh
      ∧ ∃ x ∈ sectorsOf s.profileWords, x.kind = .gated ∧ x.required = s.zoneNow.code
          ∧ angleSub s.image.swing.position x.start < x.width := by
  simp only [State.gatedHold, Bool.and_eq_true, decide_eq_true_eq, AxisRecord.isFresh_iff, List.any_eq_true,
    Sector.inside, and_assoc, and_comm (b := _ = s.zoneNow.code)]
  simp only [and_left_comm (b := _ = SectorKind.gated)]
  rfl

theorem lower_zero (limit : Nat) (applies : Bool) : lower limit applies 0 = if applies = true then 0 else limit := by
  simp [lower]

end Sys2Proof.Machine

open Sys2Proof Sys2Proof.Machine

/-- Settles O41: the lookup by its three cases, the limit as a mean of means (`weighted_between`). -/
theorem envelopeLookupAndInterpolation : Obligations.EnvelopeLookupAndInterpolation := by
  refine ⟨fun x x0 step n two pos => ?_, fun l00 l10 l01 l11 fh fd hh hd => ?_, fun s l => ?_⟩
  · have grid : 0 < (n - 1) * step := Nat.mul_pos (by omega) pos
    intro r
    obtain below | above := le_or_gt x x0
    · have e : r = _ := gridLookup_at_or_below below
      simp only [e]
      refine ⟨Nat.zero_le _, by decide, by simp; omega, fun _ => ⟨trivial, trivial⟩, fun _ => by omega, fun _ => by omega⟩
    · obtain beyond | within := le_or_gt (x0 + (n - 1) * step) x
      · have e : r = _ := gridLookup_at_or_beyond above beyond
        simp only [e]
        exact ⟨le_rfl, le_rfl, by simp; omega, fun _ => by omega, fun _ => ⟨trivial, trivial⟩, fun _ _ => by omega⟩
      · have e : r = _ := gridLookup_within above within
        obtain ⟨index, low, high, fraction⟩ := gridLookup_within_bounds pos above within
        simp only [e]
        exact ⟨by omega, by omega, by simp; omega, fun _ => by omega, fun _ => by omega,
          fun _ _ => ⟨trivial, low, high, trivial, fraction⟩⟩
  · obtain ⟨low, high⟩ := interpolate_between (l00 := l00) (l10 := l10) (l01 := l01) (l11 := l11)
      (lo := min (min l00 l10) (min l01 l11)) (hi := max (max l00 l10) (max l01 l11)) hh hd (by omega) (by omega) (by omega)
      (by omega)
    refine ⟨rfl, low, high, ?_, ?_, ?_, ?_⟩
    all_goals
      rintro rfl rfl
      simp only [interpolate]
      omega
  · have range (f : Field) (h : f.lo ≤ f.hi) := (f.read_mem s.profileWords h).1
    refine ⟨rfl, rfl, range proNH (by decide), ?_, range proND (by decide), ?_, fun valid hoist drag => ?_⟩
    · exact (by decide : 0 < 50).trans_le (range proHstep (by decide))
    · exact (by decide : 0 < 50).trans_le (range proDstep (by decide))
    · exact State.baseLimit_of_usable (s.usableTable_iff.mpr ⟨valid, hoist, drag⟩) l

/-- Settles O42, modifier by modifier. -/
theorem modifiersLowerLimits : Obligations.ModifiersLowerLimits := by
  constructor
  · intro s op known tight heavy gated payOut
    have tightline : s.tightline op.hoistCommand op.dragCommand = true ↔ tight :=
      (s.tightline_iff _ _).trans (and_congr_left fun _ => s.usableTable_iff)
    have hold : s.gatedHold = true ↔ gated := s.gatedHold_iff.trans (and_congr_left fun _ => s.usableTable_iff)
    refine ⟨fun unknown l => State.baseLimit_of_not_usable (mt s.usableTable_iff.mp unknown) l, ?_, ?_, ?_, ?_⟩
    · rw [State.limit, lower_zero, lower_zero]
      by_cases hh : heavy <;> by_cases hs : op.session = true <;> simp [s.overload_iff, heavy, hh, hs]
    · rw [State.limit, lower_zero, lower_zero]
      by_cases ht : tight <;> by_cases hs : op.session = true <;> simp [tightline, ht, hs]
    · rw [State.limit, lower_zero]
      by_cases hg : gated <;> simp [hold, hg, lower, payOut, State.walkPayOutLimit]
    · rfl
  · intro s m known h d i j
    refine ⟨fun table => ?_, fun unknown => if_neg (mt s.usableTable_iff.mp unknown)⟩
    rw [State.zoneNow, if_pos (s.usableTable_iff.mpr table)]
    rfl

end

section
/-! PROOFS. The swing limit before the blocking sectors (R104 to R112). -/

namespace Sys2Proof.Machine

/-! ### The least of a list -/

theorem least_eq_none_iff (l : List Nat) : least l = none ↔ l = [] := by
  cases l with
  | nil => exact iff_of_true rfl rfl
  | cons n l =>
    simp only [least]
    cases least l <;> simp

theorem least_eq_some_iff {l : List Nat} {n : Nat} : least l = some n ↔ n ∈ l ∧ ∀ m ∈ l, n ≤ m := by
  induction l generalizing n with
  | nil => simp [least]
  | cons a l ih =>
    simp only [least]
    cases rest : least l with
    | none =>
      have empty := (least_eq_none_iff l).mp rest
      subst empty
      simp only [Option.some.injEq, List.mem_singleton, forall_eq]
      exact ⟨fun same => ⟨same.symm, same.symm.le⟩, fun h => h.1.symm⟩
    | some k =>
      obtain ⟨mem, least⟩ := ih.mp rest
      simp only [Option.some.injEq, List.mem_cons, forall_eq_or_imp]
      constructor
      · rintro rfl
        refine ⟨?_, min_le_left _ _, fun m hm => (min_le_right _ _).trans (least m hm)⟩
        obtain le | le := le_total a k
        · exact .inl (min_eq_left le)
        · exact .inr ((min_eq_right le).symm ▸ mem)
      · rintro ⟨at_n, low, all⟩
        refine le_antisymm ?_ (le_min low (all k mem))
        obtain rfl | hn := at_n
        · exact min_le_left _ _
        · exact (min_le_right _ _).trans (least n hn)

/-! ### Blocking sectors (R104, R105, R108) -/

/-- UNKNOWN ranks below every class (R104). -/
theorem Zone.rank_lt_iff (z : Zone) (required : Nat) : z.rank < required ↔
    z = .unknown ∨ z = .ground ∧ 0 < required ∨ z = .dig ∧ 1 < required ∨ z = .carry ∧ 2 < required
      ∨ (z = .clear ∨ z = .boomtip) ∧ 3 < required := by
  cases z <;> simp [Zone.rank]
  omega

theorem Sector.blocks_iff (x : Sector) (z : Zone) :
    x.blocks z = true ↔ x.kind = .hardEnd ∨ x.kind = .gated ∧ z.rank < x.required := by
  simp only [Sector.blocks]
  cases x.kind <;> simp

theorem State.insideBlocking_iff (s : State) : s.insideBlocking = true ↔
    ∃ x ∈ s.blockingSectors, angleSub s.image.swing.position x.start < x.width := by
  simp only [State.insideBlocking, List.any_eq_true, Sector.inside, decide_eq_true_eq]
  rfl

/-! ### The limit -/

theorem taperLimit_le (global slowZone guard delta dStop : Nat) :
    taperLimit global slowZone guard delta dStop ≤ global := by
  simp only [taperLimit]
  split
  · exact Nat.zero_le _
  · split
    · rename_i slow
      exact Nat.div_le_of_le_mul (by rw [Nat.mul_comm slowZone]; exact Nat.mul_le_mul_left _ (by omega))
    · exact le_rfl

/-- The taper by the margin left of the distance ahead (R111). -/
theorem taperLimit_by_margin (global slowZone guard delta dStop : Nat) :
    let margin : Int := delta - dStop - guard
    let u := taperLimit global slowZone guard delta dStop
    (margin ≤ 0 → u = 0) ∧ (0 < margin → margin < slowZone → (u : Int) = global * margin / slowZone)
      ∧ ((slowZone : Int) ≤ margin → 0 < slowZone → u = global) := by
  intro margin u
  refine ⟨fun stop => if_pos stop, fun pos slow => ?_, fun far pos => ?_⟩
  · have e : u = global * margin.toNat / slowZone := (if_neg pos.not_ge).trans (if_pos slow)
    rw [e, Int.natCast_div, Nat.cast_mul, Int.toNat_of_nonneg pos.le]
  · exact (if_neg (by omega)).trans (if_neg far.not_gt)

theorem State.aheadLimit_le (s : State) (positive : Bool) : s.aheadLimit positive ≤ proSwingLimit.read s.profileWords := by
  simp only [State.aheadLimit]
  split
  · exact le_rfl
  · exact taperLimit_le ..

theorem State.uncappedLimit_le (s : State) (c : Int) : s.uncappedLimit c ≤ proSwingLimit.read s.profileWords := by
  simp only [State.uncappedLimit]
  split
  · exact le_rfl
  · split
    · exact le_rfl
    · exact s.aheadLimit_le _

theorem State.swingLimit_le_uncapped (s : State) (c : Int) : s.swingLimit c ≤ s.uncappedLimit c := by
  simp only [State.swingLimit]
  split
  · exact Nat.zero_le _
  · split
    · exact le_rfl
    · exact min_le_left _ _

/-- The house is inside a SPEED sector of the table (R112). -/
theorem State.mem_speeds_iff (s : State) (n : Nat) :
    n ∈ ((sectorsOf s.profileWords).filter fun x => decide (x.kind = .speed) && x.inside (s.axis .swing).position).map (·.speed)
      ↔ ∃ x ∈ sectorsOf s.profileWords, x.kind = .speed ∧ angleSub s.image.swing.position x.start < x.width
          ∧ x.speed = n := by
  simp only [List.mem_map, List.mem_filter, Bool.and_eq_true, decide_eq_true_eq, Sector.inside, and_assoc]
  rfl

theorem State.swingLimit_le_speed {s : State} {x : Sector} (c : Int) (listed : x ∈ sectorsOf s.profileWords)
    (speed : x.kind = .speed) (inside : angleSub s.image.swing.position x.start < x.width) :
    s.swingLimit c ≤ x.speed := by
  have mem := (s.mem_speeds_iff x.speed).mpr ⟨x, listed, speed, inside, rfl⟩
  simp only [State.swingLimit]
  split
  · exact Nat.zero_le _
  · split
    · rename_i free
      rw [(least_eq_none_iff _).mp free] at mem
      cases mem
    · rename_i cap least
      exact (min_le_right _ _).trans ((least_eq_some_iff.mp least).2 _ mem)

/-- Outside every blocking sector the limit is the uncapped one or a SPEED sector's (R110, R112). -/
theorem State.swingLimit_cases {s : State} (c : Int) (outside : ¬s.insideBlocking = true) :
    s.swingLimit c = s.uncappedLimit c
      ∨ ∃ x ∈ sectorsOf s.profileWords, x.kind = .speed ∧ angleSub s.image.swing.position x.start < x.width
          ∧ s.swingLimit c = x.speed := by
  simp only [State.swingLimit, if_neg outside]
  split
  · exact .inl rfl
  · rename_i cap least
    obtain ⟨x, listed, speed, inside, rfl⟩ := (s.mem_speeds_iff cap).mp (least_eq_some_iff.mp least).1
    obtain le | le := le_total (s.uncappedLimit c) x.speed
    · exact .inl (min_eq_left le)
    · exact .inr ⟨x, listed, speed, inside, min_eq_right le⟩

/-- The command follows the motion, or starts from rest (R110). -/
theorem State.uncappedLimit_of_follows {s : State} {c : Int} (nonzero : c ≠ 0)
    (follows : s.image.swing.speed = 0 ∨ c.sign = s.image.swing.speed.sign) :
    s.uncappedLimit c = s.aheadLimit (decide (0 < c)) := by
  have no : ¬((s.axis .swing).speed ≠ 0 ∧ c.sign ≠ (s.axis .swing).speed.sign) := fun ⟨moves, against⟩ =>
    follows.elim moves against
  simp only [State.uncappedLimit, if_neg nonzero, if_neg no]

theorem State.uncappedLimit_of_not_follows {s : State} {c : Int}
    (h : ¬(c ≠ 0 ∧ (s.image.swing.speed = 0 ∨ c.sign = s.image.swing.speed.sign))) :
    s.uncappedLimit c = proSwingLimit.read s.profileWords := by
  simp only [State.uncappedLimit]
  split
  · rfl
  · rename_i nonzero
    have against := not_or.mp (mt (And.intro nonzero) h)
    exact if_pos against

/-- With no blocking sector ahead the limit is the global one (R111). -/
theorem State.aheadLimit_of_none {s : State} (h : s.blockingSectors = []) (positive : Bool) :
    s.aheadLimit positive = proSwingLimit.read s.profileWords := by
  have free : s.distanceAhead positive = none := by
    rw [State.distanceAhead, h]
    rfl
  simp only [State.aheadLimit, free]

theorem State.aheadLimit_of_nearest {s : State} {x : Sector} {positive : Bool} (blocks : x ∈ s.blockingSectors)
    (nearest : ∀ y ∈ s.blockingSectors, x.ahead s.image.swing.position positive ≤ y.ahead s.image.swing.position positive) :
    s.aheadLimit positive = taperLimit (proSwingLimit.read s.profileWords) (proSlowZone.read s.profileWords)
      (proGuard.read s.profileWords) (x.ahead s.image.swing.position positive) s.stopDistance := by
  have ahead : s.distanceAhead positive = some (x.ahead s.image.swing.position positive) := by
    refine least_eq_some_iff.mpr ⟨List.mem_map_of_mem blocks, fun n hn => ?_⟩
    obtain ⟨y, hy, rfl⟩ := List.mem_map.mp hn
    exact nearest y hy
  simp only [State.aheadLimit, ahead]

end Sys2Proof.Machine

open Sys2Proof Sys2Proof.Machine

/-- Settles O44: the least distance and the least speed limit by what a least is (`least_eq_some_iff`), the taper by its
margin (`taperLimit_by_margin`). -/
theorem swingLimitTapers : Obligations.SwingLimitTapers := by
  intro c s m angle speed zone below blocks inside ahead follows l
  have mem (x : Sector) : x ∈ s.blockingSectors ↔ blocks x := by
    rw [State.blockingSectors, List.mem_filter, Sector.blocks_iff, Zone.rank_lt_iff]
  have ahead_eq (x : Sector) : x.ahead s.image.swing.position (decide (0 < c)) = ahead x := by
    simp only [Sector.ahead, decide_eq_true_eq]
    rfl
  have inside_iff : s.insideBlocking = true ↔ ∃ x, blocks x ∧ inside x := by
    rw [s.insideBlocking_iff]
    simp only [mem]
    rfl
  refine ⟨inside_iff, fun within => if_pos (inside_iff.mpr within), (s.swingLimit_le_uncapped c).trans (s.uncappedLimit_le c),
    fun x listed speed within => s.swingLimit_le_speed c listed speed within, fun outside => ?_⟩
  refine ⟨s.uncappedLimit c, s.swingLimit_le_uncapped c, s.swingLimit_cases c (mt inside_iff.mp outside),
    s.uncappedLimit_of_not_follows, fun goes none => ?_, fun x goes block nearest => ?_⟩
  · rw [s.uncappedLimit_of_follows goes.1 goes.2]
    exact State.aheadLimit_of_none (List.eq_nil_iff_forall_not_mem.mpr fun x hx => none ⟨x, (mem x).mp hx⟩) _
  · have e := s.aheadLimit_of_nearest (positive := decide (0 < c)) ((mem x).mpr block) fun y hy => by
      rw [ahead_eq, ahead_eq]
      exact nearest y ((mem y).mp hy)
    rw [s.uncappedLimit_of_follows goes.1 goes.2, e, ahead_eq]
    obtain ⟨stop, taper, far⟩ := taperLimit_by_margin (proSwingLimit.read m) (proSlowZone.read m) (proGuard.read m) (ahead x)
      s.stopDistance
    have slow := (proSlowZone.read_mem m (by decide)).1
    exact ⟨stop, taper, fun h => far h ((by decide : 0 < 100).trans_le slow)⟩

end

section
/-! PROOFS. A validation's run over its page (R46, R47). -/

namespace Sys2Proof.Machine

/-! ### The register over a run of words -/

/-- Words read one after another: the register runs on. -/
theorem crcOver_add (m : Memory) (size start a b : Nat) (reg : Word) :
    crcOver m size start (a + b) reg = crcOver m size (start + a) b (crcOver m size start a reg) := by
  simp only [crcOver, List.range_add, List.filter_append, List.foldl_append, List.filter_map, List.foldl_map,
    Function.comp_def, Nat.add_assoc]

/-- Over the whole page every word but the last is covered. -/
theorem crcOver_whole (m : Memory) (size : Nat) (reg : Word) :
    crcOver m size 0 size reg = ((List.range (size - 1)).map fun k => Memory.read m k).foldl crcWord reg := by
  have covered : (List.range size).filter (fun k => decide (0 + k + 1 < size)) = List.range (size - 1) := by
    cases size with
    | zero => rfl
    | succ n =>
      rw [Nat.add_sub_cancel, List.range_succ, List.filter_append, List.filter_eq_self.mpr, List.filter_eq_nil_iff.mpr,
        List.append_nil]
      · simp
      · intro k hk
        have := List.mem_range.mp hk
        simpa using this
  rw [crcOver, covered, List.foldl_map]
  simp only [Nat.zero_add]

/-! ### The run of a validation -/

/-- After `k` advances the run stands at 64 words an advance, at most the page (R46). -/
theorem CheckRun.iterate_advance (m : Memory) (id : PageId) (k : Nat) :
    (fun v : CheckRun => v.advance m)^[k] ⟨id, 0, 0xFFFF⟩
      = ⟨id, min (64 * k) id.size, crcOver m id.size 0 (min (64 * k) id.size) 0xFFFF⟩ := by
  induction k with
  | zero =>
    have none : min (64 * 0) id.size = 0 := by simp
    rw [Function.iterate_zero_apply, none]
    rfl
  | succ k ih =>
    rw [Function.iterate_succ_apply', ih]
    have words : Config.wordsPerAdvance = 64 := rfl
    have next : min (64 * k) id.size + min 64 (id.size - min (64 * k) id.size) = min (64 * (k + 1)) id.size := by omega
    simp only [CheckRun.advance, words, next]
    rw [← next, crcOver_add, Nat.zero_add]

/-! ### An EMPTY page -/

/-- A register that is not 0 stays so over words 0: no bit is lost but one that is fed back. -/
theorem crcBit_zero_ne {r : Word} (h : r ≠ 0) : crcBit r false ≠ 0 := by
  have bit (k : Nat) : (r <<< 1).getLsbD (k + 1) = (decide (k + 1 < 16) && r.getLsbD k) := by
    simp [BitVec.getLsbD_shiftLeft]
  intro zero
  rw [crcBit, Bool.xor_false] at zero
  split at zero
  · have low := congrArg (·.getLsbD 0) zero
    simp at low
  · rename_i clear
    refine h (BitVec.eq_of_getLsbD_eq fun k hk => ?_)
    by_cases last : k = 15
    · subst last
      rw [BitVec.msb_eq_getLsbD_last] at clear
      simpa using clear
    · have := bit k
      rw [zero] at this
      simpa [show k + 1 < 16 by omega] using this

theorem crcByte_zero_ne {r : Word} (h : r ≠ 0) : crcByte r 0 ≠ 0 := by
  simp only [crcByte, List.foldl_cons, List.foldl_nil]
  exact crcBit_zero_ne (crcBit_zero_ne (crcBit_zero_ne (crcBit_zero_ne (crcBit_zero_ne (crcBit_zero_ne (crcBit_zero_ne
    (crcBit_zero_ne h)))))))

theorem crcWord_zero_ne {r : Word} (h : r ≠ 0) : crcWord r 0 ≠ 0 := crcByte_zero_ne (crcByte_zero_ne h)

theorem foldl_crcWord_zero_ne (l : List Nat) {r : Word} (h : r ≠ 0) :
    (l.map fun k => Memory.read [] k).foldl crcWord r ≠ 0 := by
  induction l generalizing r with
  | nil => exact h
  | cons k l ih => exact ih (crcWord_zero_ne h)

end Sys2Proof.Machine

open Sys2Proof Sys2Proof.Machine

/-- Settles O46: the run after `k` advances in closed form (`CheckRun.iterate_advance`); on an EMPTY page the register never
comes to 0 (`crcWord_zero_ne`). -/
theorem validationCoversPage : Obligations.ValidationCoversPage := by
  refine ⟨?_, fun id => foldl_crcWord_zero_ne _ (by decide)⟩
  intro m id n run
  have run_eq (k : Nat) : run k = ⟨id, min (64 * k) id.size, crcOver m id.size 0 (min (64 * k) id.size) 0xFFFF⟩ :=
    CheckRun.iterate_advance m id k
  have size : 64 * (n - 1) < id.size ∧ id.size ≤ 64 * n := by cases id <;> exact ⟨by simp [PageId.size, n], by simp [PageId.size, n]⟩
  have whole : min (64 * n) id.size = id.size := min_eq_right size.2
  refine ⟨fun k hk => ?_, ?_, ?_⟩
  · rw [run_eq]
    exact (min_le_left _ _).trans_lt ((Nat.mul_le_mul_left 64 (Nat.le_sub_one_of_lt hk)).trans_lt size.1)
  · rw [run_eq, whole]
  · rw [run_eq, whole]
    exact crcOver_whole m id.size 0xFFFF

end

section
/-! PROOFS. ACK_ALARM: the entries acknowledged and removed, one or all of them (R153, R154). -/

namespace Sys2Proof.Machine

/-! ### One entry acknowledged (R153) -/

/-- The entry leaves the list as it is acknowledged. -/
abbrev State.leaves (s : State) (e : Entry) : Bool := !e.acked && e.latched && !(s.status e.id).condition

/-- The entry with its acknowledged flag set. -/
abbrev Entry.acknowledge (e : Entry) : Entry := { e with acked := true }

/-- The state in which an entry has been acknowledged and has not left the list. -/
def State.markAcked (s : State) (e : Entry) : State :=
  let m := State.hornFollow (s.setAlarm { s.alarm with list := ackedList s.alarm.list e.id })
  m.setStatus e.id { m.status e.id with report := true }

theorem State.markAcked_status (s : State) (e : Entry) :
    (s.markAcked e).status e.id = { s.status e.id with report := true } := by
  rw [State.markAcked, State.status_setStatus, State.hornFollow_status]
  rfl

theorem State.markAcked_status_ne (s : State) (e : Entry) {j : AlarmId} (h : j ≠ e.id) :
    (s.markAcked e).status j = s.status j := by
  rw [State.markAcked, State.status_setStatus_ne _ _ h, State.hornFollow_status]
  rfl

theorem State.markAcked_list (s : State) (e : Entry) :
    (s.markAcked e).alarm.list = ackedList s.alarm.list e.id := by
  simp [State.markAcked]

theorem State.markAcked_cause (s : State) (e : Entry) :
    (s.markAcked e).alarm.resetCause = s.alarm.resetCause := by
  simp [State.markAcked]

theorem State.ackEntry_of_acked {s : State} {e : Entry} (h : e.acked = true) : s.ackEntry e = (s, false, false) := by
  rw [State.ackEntry, if_pos h]

theorem State.ackEntry_of_leaves {s : State} {e : Entry} (h : s.leaves e = true) :
    s.ackEntry e = ((s.markAcked e).removeEntry e.acknowledge, true, true) := by
  obtain ⟨⟨new, latched⟩, absent⟩ : (e.acked = false ∧ e.latched = true) ∧ (s.status e.id).condition = false := by
    simpa using h
  have goes : (e.latched && !(s.status e.id).condition) = true := by simp [latched, absent]
  rw [State.ackEntry, if_neg (by simp [new])]
  dsimp only
  rw [if_pos goes]
  rfl

theorem State.ackEntry_of_stays {s : State} {e : Entry} (new : e.acked = false) (h : s.leaves e = false) :
    s.ackEntry e = (s.markAcked e, true, false) := by
  have stays : (e.latched && !(s.status e.id).condition) = false := by simpa [State.leaves, new] using h
  rw [State.ackEntry, if_neg (by simp [new])]
  dsimp only
  rw [if_neg (by simp [stays])]
  rfl

/-- Where an ID has one entry, acknowledging it changes that entry alone. -/
theorem ackedList_split {older newer : List Entry} {e : Entry} (once : ∀ x ∈ older ++ newer, x.id ≠ e.id) :
    ackedList (older ++ e :: newer) e.id = older ++ e.acknowledge :: newer := by
  have same (l : List Entry) (h : ∀ x ∈ l, x.id ≠ e.id) : ackedList l e.id = l := by
    refine (List.map_congr_left fun x hx => ?_).trans (List.map_id l)
    exact if_neg (h x hx)
  have split : ackedList (older ++ e :: newer) e.id
      = ackedList older e.id ++ e.acknowledge :: ackedList newer e.id := by
    simp [ackedList]
  rw [split, same older fun x hx => once x (List.mem_append_left _ hx),
    same newer fun x hx => once x (List.mem_append_right _ hx)]

theorem filter_split {older newer : List Entry} {e : Entry} (once : ∀ x ∈ older ++ newer, x.id ≠ e.id) :
    (older ++ e.acknowledge :: newer).filter (fun x => decide (x.id ≠ e.id)) = older ++ newer := by
  have same (l : List Entry) (h : ∀ x ∈ l, x.id ≠ e.id) : l.filter (fun x => decide (x.id ≠ e.id)) = l :=
    List.filter_eq_self.mpr fun x hx => decide_eq_true (h x hx)
  rw [List.filter_append, List.filter_cons_of_neg (by simp), same older fun x hx => once x (List.mem_append_left _ hx),
    same newer fun x hx => once x (List.mem_append_right _ hx)]

/-- What the acknowledgement of an entry does: it leaves the list or stays there acknowledged. -/
structure Acknowledges (s t : State) (e : Entry) : Prop where
  only   : t = s.setAlarm t.alarm
  own    : t.status e.id = { s.status e.id with report := (s.status e.id).report || !e.acked }
  others : ∀ j, j ≠ e.id → t.status j = s.status j
  list   : ∀ older newer, s.alarm.list = older ++ e :: newer → (∀ x ∈ older ++ newer, x.id ≠ e.id) →
    t.alarm.list = older ++ ((if s.leaves e then [] else [e.acknowledge]) ++ newer)
  cause  : t.alarm.resetCause = s.alarm.resetCause
  mode   : t.mode = s.mode

theorem State.ackEntry_acknowledges (s : State) (e : Entry) :
    Acknowledges s (s.ackEntry e).1 e ∧ (s.ackEntry e).2 = (!e.acked, s.leaves e) := by
  have only := s.ackEntry_frame e
  have mode : (s.ackEntry e).1.mode = s.mode := s.ackEntry_mode e
  cases flag : e.acked with
  | true =>
    have stays : s.leaves e = false := by simp [State.leaves, flag]
    have kept : e.acknowledge = e := by rw [Entry.acknowledge, ← flag]
    rw [State.ackEntry_of_acked flag] at only mode ⊢
    refine ⟨⟨only, by simp [flag], fun _ _ => rfl, fun older newer l _ => ?_, rfl, mode⟩, by rw [stays]; rfl⟩
    rw [stays, kept]
    exact l
  | false =>
    have owes : ((s.status e.id).report || !e.acked) = true := by simp [flag]
    cases goes : s.leaves e with
    | true =>
      have latched : e.latched = true := by
        simp only [State.leaves, Bool.and_eq_true] at goes
        exact goes.1.2
      have removed := State.removeEntry_status (s.markAcked e) e.acknowledge
      rw [if_pos latched, State.markAcked_status] at removed
      rw [State.ackEntry_of_leaves goes] at only mode ⊢
      refine ⟨⟨only, by rw [owes]; exact removed, fun j hj => ?_, fun older newer l once => ?_, ?_, mode⟩, rfl⟩
      · exact ((OthersKept.removeEntry _ e.acknowledge).status j hj).trans (s.markAcked_status_ne e hj)
      · rw [goes, State.removeEntry_list, State.markAcked_list, l, ackedList_split once]
        exact filter_split once
      · rw [State.removeEntry_cause, State.markAcked_cause]
    | false =>
      rw [State.ackEntry_of_stays flag goes] at only mode ⊢
      refine ⟨⟨only, by rw [owes]; exact s.markAcked_status e, fun j hj => s.markAcked_status_ne e hj,
        fun older newer l once => ?_, s.markAcked_cause e, mode⟩, rfl⟩
      rw [goes, State.markAcked_list, l, ackedList_split once]
      rfl

/-! ### All of a list (R154) -/

/-- What the acknowledgement of entries one after another does, the list apart. -/
structure AcknowledgesAll (s t : State) (l : List Entry) : Prop where
  only   : t = s.setAlarm t.alarm
  status : ∀ i, { t.status i with report := (s.status i).report } = s.status i
  owed   : ∀ i, (s.status i).report = true → (t.status i).report = true
  raised : ∀ e ∈ l, e.acked = false → (t.status e.id).report = true
  cause  : t.alarm.resetCause = s.alarm.resetCause
  mode   : t.mode = s.mode

theorem AcknowledgesAll.nil (s : State) : AcknowledgesAll s s [] :=
  ⟨rfl, fun _ => rfl, fun _ => id, nofun, rfl, rfl⟩

theorem AcknowledgesAll.cons {s t u : State} {e : Entry} {l : List Entry} (h : Acknowledges s t e)
    (k : AcknowledgesAll t u l) : AcknowledgesAll s u (e :: l) := by
  have status (i : AlarmId) : { t.status i with report := (s.status i).report } = s.status i := by
    by_cases hi : i = e.id
    · rw [hi, h.own]
    · rw [h.others i hi]
  have owed (i : AlarmId) (pending : (s.status i).report = true) : (t.status i).report = true := by
    by_cases hi : i = e.id
    · rw [hi] at pending ⊢
      rw [h.own, pending]
      rfl
    · rwa [h.others i hi]
  refine ⟨?_, fun i => ?_, fun i pending => k.owed i (owed i pending), fun x hx new => ?_, k.cause.trans h.cause,
    k.mode.trans h.mode⟩
  · rw [k.only, h.only]
    rfl
  · rw [← status i, ← k.status i]
  · obtain rfl | hx := List.mem_cons.mp hx
    · exact k.owed _ (by rw [h.own, new]; simp)
    · exact k.raised x hx new

/-- The acknowledgement of the rest of a list, the entries before it being done (R154): each entry once, those that leave
gone, the others acknowledged in their order. -/
theorem State.ackAll_acknowledges (s : State) (older l : List Entry) (list : s.alarm.list = older ++ l)
    (once : ((older ++ l).map (·.id)).Nodup) :
    AcknowledgesAll s (s.ackAll l).1 l
      ∧ (s.ackAll l).1.alarm.list = older ++ (l.filter fun e => !s.leaves e).map Entry.acknowledge
      ∧ (s.ackAll l).2 = (l.countP fun e => !e.acked, l.countP s.leaves) := by
  induction l generalizing s older with
  | nil => exact ⟨.nil s, list, rfl⟩
  | cons e l ih =>
    obtain ⟨acknowledges, flags⟩ := s.ackEntry_acknowledges e
    have alone : ∀ x ∈ older ++ l, x.id ≠ e.id := by
      have apart : (e.id :: (older ++ l).map (·.id)).Nodup := by
        have perm : ((older ++ e :: l).map (·.id)).Perm (e.id :: (older ++ l).map (·.id)) :=
          (List.perm_middle).map _
        exact perm.nodup_iff.mp once
      intro x hx same
      exact (List.nodup_cons.mp apart).1 (same ▸ List.mem_map_of_mem hx)
    have step := acknowledges.list older l list alone
    have condition (x : Entry) : (s.ackEntry e).1.leaves x = s.leaves x := by
      by_cases hx : x.id = e.id
      · simp only [State.leaves, hx, acknowledges.own]
      · simp only [State.leaves, acknowledges.others _ hx]
    have same : (s.ackEntry e).1.leaves = s.leaves := funext condition
    have distinct : (((older ++ if s.leaves e then [] else [e.acknowledge]) ++ l).map (·.id)).Nodup := by
      refine List.Nodup.sublist ?_ once
      cases s.leaves e <;> simp
    obtain ⟨all, rest, counts⟩ := ih (s.ackEntry e).1 (older ++ if s.leaves e then [] else [e.acknowledge])
      (by rw [step, List.append_assoc]) distinct
    have unfolded : s.ackAll (e :: l) = (((s.ackEntry e).1.ackAll l).1,
        (s.ackEntry e).2.1.toNat + ((s.ackEntry e).1.ackAll l).2.1,
        (s.ackEntry e).2.2.toNat + ((s.ackEntry e).1.ackAll l).2.2) := rfl
    have counted (p : Entry → Bool) : (p e).toNat + l.countP p = (e :: l).countP p := by
      cases hp : p e <;> simp [hp, Nat.add_comm]
    refine ⟨by rw [unfolded]; exact all.cons acknowledges, ?_, ?_⟩
    · rw [unfolded]
      refine rest.trans ?_
      rw [same]
      cases goes : s.leaves e with
      | true => rw [List.filter_cons_of_neg (by simp [goes]), if_pos rfl, List.append_nil]
      | false =>
        rw [List.filter_cons_of_pos (by simp [goes]), if_neg Bool.false_ne_true, List.append_assoc]
        rfl
    · rw [unfolded, counts, flags, same, ← counted, ← counted]

/-! ### The request (R154) -/

theorem AcknowledgesAll.alarmFrame {s t : State} {l : List Entry} (h : AcknowledgesAll s t l) :
    AlarmFrame (List.finRange 24) s t where
  status i hi := absurd (List.mem_finRange i) hi.1
  report i hi := absurd (List.mem_finRange i) hi.1
  entry i hi := absurd (List.mem_finRange i) hi.1
  owed i pending := .inl (h.owed i pending)
  cause := h.cause
  mode := .inl h.mode

theorem ownAckAlarm_all {arg : Word} (h : arg = 255) (s : State) :
    ownAckAlarm [arg] s = ((s.ackAll s.alarm.list).1,
      .replying [10, 0, wordOfNat (s.ackAll s.alarm.list).2.1, wordOfNat (s.ackAll s.alarm.list).2.2] false) := by
  subst h
  rfl

theorem ownAckAlarm_one {s : State} {i : AlarmId} {e : Entry} (listed : s.entry? i = some e) :
    ownAckAlarm [wordOfNat i.val] s = ((s.ackEntry e).1,
      .replying [10, 0, wordOfNat (s.ackEntry e).2.1.toNat, wordOfNat (s.ackEntry e).2.2.toNat] false) := by
  have value : (wordOfNat i.val).toNat = i.val := by
    have := i.isLt
    simp [wordOfNat]
    omega
  have few : ¬i.val = 255 := by
    have := i.isLt
    omega
  simp only [ownAckAlarm, List.getD_cons_zero, value, if_neg few, alarmIdOf_val rfl, Option.bind_some, listed]
  rfl

theorem ownAckAlarm_none {s : State} {arg : Word} (ne : arg ≠ 255)
    (none : (alarmIdOf arg.toNat).bind (fun i => s.entry? i) = none) :
    ownAckAlarm [arg] s = (s, .replying [10, 2] false) := by
  have few : ¬arg.toNat = 255 := fun h => ne (BitVec.eq_of_toNat_eq h)
  simp only [ownAckAlarm, List.getD_cons_zero, if_neg few, none]
  rfl

theorem exec_ackAlarm {s v : State} {u : MgmtUnit} {arg : Word} (h : Serving s 10 [arg])
    (outcome : ownAckAlarm [arg] s.tookRequest = (v, u)) : exec .ackAlarm s = .next (v.busyWith u).settle :=
  congrArg _ (State.serve_owner h (by decide) rfl outcome)

theorem alarmId_word_ne (i : AlarmId) : wordOfNat i.val ≠ (255 : Word) := by
  revert i
  decide

theorem alarmIdOf_word (i : AlarmId) : alarmIdOf (wordOfNat i.val).toNat = some i := by
  refine alarmIdOf_val ?_
  have := i.isLt
  simp [wordOfNat]
  omega

/-- The entry of the ID stands once in the list. -/
theorem State.entry?_split {s : State} {i : AlarmId} {e : Entry} (once : (s.alarm.list.map (·.id)).Nodup)
    (listed : s.entry? i = some e) :
    ∃ older newer, s.alarm.list = older ++ e :: newer ∧ ∀ x ∈ older ++ newer, x.id ≠ e.id := by
  obtain ⟨older, newer, list⟩ := List.append_of_mem (List.mem_of_find?_eq_some listed)
  refine ⟨older, newer, list, ?_⟩
  rw [list] at once
  have perm : ((older ++ e :: newer).map (·.id)).Perm (e.id :: (older ++ newer).map (·.id)) :=
    (List.perm_middle).map _
  exact fun x hx same => (List.nodup_cons.mp (perm.nodup_iff.mp once)).1 (same ▸ List.mem_map_of_mem hx)

/-- The acknowledgement of the one entry of an ID at the Alarm Unit. -/
structure AcknowledgesOne (s t : State) (i : AlarmId) (e : Entry) : Prop where
  alarms : AlarmFrame [i] s t
  entry  : t.entry? i = if s.leaves e then none else some e.acknowledge
  status : { t.status i with report := (s.status i).report } = s.status i
  owed   : e.acked = false → (t.status i).report = true

theorem Acknowledges.one {s t : State} {i : AlarmId} {e : Entry} (h : Acknowledges s t e)
    (once : (s.alarm.list.map (·.id)).Nodup) (listed : s.entry? i = some e) : AcknowledgesOne s t i e := by
  have own : e.id = i := State.entry?_id listed
  obtain ⟨older, newer, list, alone⟩ := State.entry?_split once listed
  have after := h.list older newer list alone
  subst own
  have absent (l : List Entry) (sub : ∀ x ∈ l, x.id ≠ e.id) : l.find? (fun x => decide (x.id = e.id)) = none :=
    List.find?_eq_none.mpr fun x hx => by simpa using sub x hx
  have none_older := absent older fun x hx => alone x (List.mem_append_left _ hx)
  have none_newer := absent newer fun x hx => alone x (List.mem_append_right _ hx)
  have others : OthersKept e.id s t := by
    refine ⟨h.others, fun j hj => ?_⟩
    have apart : ¬e.id = j := fun same => hj same.symm
    rw [State.entry?, State.entry?, after, list]
    cases s.leaves e <;> simp [List.find?_append, apart]
  refine ⟨others.alarmFrame (fun pending => by rw [h.own, pending, Bool.true_or]) h.cause h.mode, ?_, by rw [h.own],
    fun new => by rw [h.own, new]; simp⟩
  rw [State.entry?, after]
  cases s.leaves e <;> simp [List.find?_append, none_older, none_newer]

end Sys2Proof.Machine

open Sys2Proof Sys2Proof.Machine

/-- Settles O57: one acknowledgement is `State.ackEntry_acknowledges`, all of them `State.ackAll_acknowledges` by
induction over the list; fixing the reply (`State.answered`) leaves both. -/
theorem acknowledgementActs : Obligations.AcknowledgementActs := by
  intro arg s serving once leaves
  refine ⟨fun i e names listed => ?one, fun i names unlisted => ?unlisted, fun every => ?all, fun high ne => ?badArgument⟩
  case one =>
    subst names
    obtain ⟨acknowledges, flags⟩ := s.tookRequest.ackEntry_acknowledges e
    have acts : AcknowledgesOne s.tookRequest (s.tookRequest.ackEntry e).1 i e := acknowledges.one once listed
    have outcome := ownAckAlarm_one (s := s.tookRequest) listed
    rw [flags] at outcome
    have a := State.answered (s := s) [10, 0, wordOfNat (!e.acked).toNat, wordOfNat (leaves e).toNat]
      acknowledges.only acts.alarms acknowledges.mode
    obtain ⟨status, entry⟩ := a.quiet i
    refine ⟨_, exec_ackAlarm serving outcome, a.replied, a.own, a.alarms, a.mode, entry.trans acts.entry, ?_,
      fun new => a.owed i (acts.owed new)⟩
    exact (congrArg (fun x : AlarmStatus => { x with report := (s.status i).report }) status).trans acts.status
  case unlisted =>
    subst names
    refine answersOnly_of_exec (exec_ackAlarm serving (ownAckAlarm_none (alarmId_word_ne i) ?_))
    rw [alarmIdOf_word]
    exact unlisted
  case all =>
    obtain ⟨acts, list, counts⟩ := s.tookRequest.ackAll_acknowledges [] s.alarm.list rfl once
    have outcome := ownAckAlarm_all every s.tookRequest
    rw [show s.tookRequest.alarm.list = s.alarm.list from rfl, counts] at outcome
    have a := State.answered (s := s) [10, 0, wordOfNat (s.alarm.list.countP fun e => !e.acked),
      wordOfNat (s.alarm.list.countP leaves)] acts.only acts.alarmFrame acts.mode
    refine ⟨_, exec_ackAlarm serving outcome, a.replied, a.own, a.mode, a.walk, a.list.trans list, fun i => ?_,
      fun e he new => a.owed _ (acts.raised e he new)⟩
    exact (congrArg (fun x : AlarmStatus => { x with report := (s.status i).report }) (a.quiet i).1).trans
      (acts.status i)
  case badArgument =>
    refine answersOnly_of_exec (exec_ackAlarm serving (ownAckAlarm_none ne ?_))
    rw [alarmIdOf_eq_none high]
    rfl

end

section
/-! PROOFS. What an alarm list gives: the derate in force, the sounding entry and the horn (R171, R173, R174). -/

namespace Sys2Proof.Machine

/-! ### The derate in force (R171) -/

theorem derate_foldl_le (l : List Entry) (n : Nat) :
    l.foldl (fun n e => min n e.factor) n ≤ n ∧ ∀ e ∈ l, l.foldl (fun n e => min n e.factor) n ≤ e.factor := by
  induction l generalizing n with
  | nil => exact ⟨le_rfl, nofun⟩
  | cons x l ih =>
    obtain ⟨start, each⟩ := ih (min n x.factor)
    refine ⟨start.trans (min_le_left _ _), fun e he => ?_⟩
    obtain rfl | he := List.mem_cons.mp he
    · exact start.trans (min_le_right _ _)
    · exact each e he

theorem derate_foldl_attained (l : List Entry) (n : Nat) :
    l.foldl (fun n e => min n e.factor) n = n ∨ ∃ e ∈ l, l.foldl (fun n e => min n e.factor) n = e.factor := by
  induction l generalizing n with
  | nil => exact .inl rfl
  | cons x l ih =>
    obtain start | ⟨e, he, least⟩ := ih (min n x.factor)
    · obtain h | h := min_choice n x.factor
      · exact .inl (start.trans h)
      · exact .inr ⟨x, List.mem_cons_self, start.trans h⟩
    · exact .inr ⟨e, List.mem_cons_of_mem _ he, least⟩

theorem mem_derates {l : List Entry} {e : Entry} :
    e ∈ l.filter (fun e => decide (e.severity = .derate)) ↔ e ∈ l ∧ e.severity = .derate := by
  rw [List.mem_filter, decide_eq_true_eq]

theorem derateOf_of_none {l : List Entry} (h : ∀ e ∈ l, e.severity ≠ .derate) : derateOf l = 256 := by
  rw [derateOf, List.filter_eq_nil_iff.mpr fun e he => by simpa using h e he]
  rfl

theorem derateOf_le_factor {l : List Entry} {e : Entry} (he : e ∈ l) (h : e.severity = .derate) :
    derateOf l ≤ e.factor :=
  (derate_foldl_le _ _).2 e (mem_derates.mpr ⟨he, h⟩)

/-- A factor in the range of R171 (at most 256) is not raised by the 256 the minimum starts from. -/
theorem derateOf_attained {l : List Entry} (range : ∀ e ∈ l, e.factor ≤ 256)
    (some : ∃ e ∈ l, e.severity = .derate) : ∃ e ∈ l, e.severity = .derate ∧ derateOf l = e.factor := by
  obtain start | ⟨e, he, least⟩ := derate_foldl_attained (l.filter fun e => decide (e.severity = .derate)) 256
  · obtain ⟨e, he, derates⟩ := some
    have below : derateOf l ≤ e.factor := derateOf_le_factor he derates
    exact ⟨e, he, derates, le_antisymm below ((range e he).trans (show 256 ≤ derateOf l from start.ge))⟩
  · obtain ⟨he, derates⟩ := mem_derates.mp he
    exact ⟨e, he, derates, least⟩

/-! ### The sounding entry (R173) -/

theorem Entry.sounds_iff (e : Entry) : e.sounds = true ↔ e.acked = false ∧ e.severity ≠ .info := by
  cases h : e.severity <;> simp [Entry.sounds, h, Severity.code]

theorem soundingEntry_eq_none_iff (l : List Entry) : soundingEntry l = none ↔ ∀ e ∈ l, e.sounds = false := by
  induction l with
  | nil => simp [soundingEntry]
  | cons e l ih =>
    rw [soundingEntry, List.forall_mem_cons]
    cases rest : soundingEntry l with
    | none =>
      have silent := ih.mp rest
      cases own : e.sounds
      · simpa using silent
      · simp
    | some x =>
      have loud : ¬∀ e ∈ l, e.sounds = false := fun h => absurd (rest.symm.trans (ih.mpr h)) nofun
      dsimp only
      split <;> simp [loud]

/-- The sounding entry splits the list: the older ones that sound are of a lower severity, the newer ones of no higher
one. -/
theorem soundingEntry_split {l : List Entry} {e : Entry} (h : soundingEntry l = some e) :
    ∃ older newer, l = older ++ e :: newer ∧ e.sounds = true
      ∧ (∀ x ∈ older, x.sounds = true → x.severity.code < e.severity.code)
      ∧ ∀ x ∈ newer, x.sounds = true → x.severity.code ≤ e.severity.code := by
  induction l generalizing e with
  | nil => cases h
  | cons y l ih =>
    rw [soundingEntry] at h
    cases rest : soundingEntry l with
    | none =>
      have silent := (soundingEntry_eq_none_iff l).mp rest
      simp only [rest] at h
      split at h
      · rename_i loud
        cases h
        exact ⟨[], l, rfl, loud, nofun, fun x hx sounds => absurd (silent x hx) (by simp [sounds])⟩
      · cases h
    | some z =>
      obtain ⟨older, newer, split, loud, below, above⟩ := ih rest
      simp only [rest] at h
      split at h
      · rename_i takes
        cases h
        obtain ⟨sounds, higher⟩ : y.sounds = true ∧ z.severity.code ≤ y.severity.code := by simpa using takes
        refine ⟨[], l, rfl, sounds, nofun, fun x hx xs => ?_⟩
        rw [split] at hx
        obtain hx | hx := List.mem_append.mp hx
        · exact (below x hx xs).le.trans higher
        · obtain rfl | hx := List.mem_cons.mp hx
          · exact higher
          · exact (above x hx xs).trans higher
      · rename_i stays
        cases h
        refine ⟨y :: older, newer, by rw [split]; rfl, loud, fun x hx xs => ?_, above⟩
        obtain rfl | hx := List.mem_cons.mp hx
        · by_contra high
          exact stays (by simp [xs, not_lt.mp high])
        · exact below x hx xs

/-! ### The horn (R174) -/

theorem hornOn_iff (pattern : BitVec 4) (e : Nat) :
    hornOn pattern e = true ↔
      (pattern.getLsbD 0 = true → e % 1000 ≤ 499) ∧ (pattern.getLsbD 1 = true → e % 500 ≤ 249)
        ∧ (pattern.getLsbD 2 = true → e % 250 ≤ 124) ∧ (pattern.getLsbD 3 = true → e % 125 ≤ 62) := by
  have envelope (b : Bool) (n m : Nat) : (!b || decide (n < m + 1)) = true ↔ (b = true → n ≤ m) := by
    cases b <;> simp
  rw [hornOn, Bool.and_eq_true, Bool.and_eq_true, Bool.and_eq_true, and_assoc, and_assoc]
  exact and_congr (envelope _ _ 499) (and_congr (envelope _ _ 249) (and_congr (envelope _ _ 124) (envelope _ _ 62)))

theorem hornOn_start (pattern : BitVec 4) : hornOn pattern 0 = true := by
  simp [hornOn_iff]

/-- 1000 ms is a whole number of periods of every envelope. -/
theorem hornOn_period (pattern : BitVec 4) (e : Nat) : hornOn pattern (e + 1000) = hornOn pattern e := by
  have quarter : (e + 1000) % 1000 = e % 1000 ∧ (e + 1000) % 500 = e % 500 ∧ (e + 1000) % 250 = e % 250
      ∧ (e + 1000) % 125 = e % 125 := by omega
  obtain ⟨h0, h1, h2, h3⟩ := quarter
  rw [hornOn, hornOn, h0, h1, h2, h3]

/-! ### Events that change the list -/

theorem State.settle_hornOrigin (s : State) : s.settle.alarm.hornOrigin = s.alarm.hornOrigin := by
  rw [(State.settle_frame s).1]
  rfl

theorem HornFollows.settle {s t : State} (h : HornFollows s t) : HornFollows s t.settle :=
  h.of_eq t.settle_list t.settle_horn t.settle_hornOrigin

/-- ACK_ALARM of one ID acknowledges its entry, or only answers (R154). -/
theorem ownAckAlarm_id (s : State) (i : AlarmId) :
    ∃ u, ownAckAlarm [wordOfNat i.val] s = (s, u) ∨ ∃ e, ownAckAlarm [wordOfNat i.val] s = ((s.ackEntry e).1, u) := by
  cases listed : s.entry? i with
  | none =>
    refine ⟨_, .inl (ownAckAlarm_none (alarmId_word_ne i) ?_)⟩
    rw [alarmIdOf_word]
    exact listed
  | some e => exact ⟨_, .inr ⟨e, ownAckAlarm_one listed⟩⟩

end Sys2Proof.Machine

open Sys2Proof Sys2Proof.Machine

/-- Settles O60: the list facts by induction on the list; the horn after an evaluation and after an acknowledgement by
`HornFollows.evaluate0` and `HornFollows.acknowledged`. -/
theorem listGivesDerateAndHorn : Obligations.ListGivesDerateAndHorn := by
  refine ⟨⟨fun l range => ⟨derateOf_of_none, fun e => derateOf_le_factor, derateOf_attained range, ?silent, ?sounding⟩,
    fun pattern e => ⟨hornOn_iff pattern e, hornOn_start pattern, hornOn_period pattern e, ?every⟩⟩, fun s sound => ?horn⟩
  case silent =>
    rw [soundingEntry_eq_none_iff]
    refine forall₂_congr fun e _ => ?_
    rw [← Bool.not_eq_true, Entry.sounds_iff]
    cases e.acked <;> simp
  case sounding =>
    intro e h
    obtain ⟨older, newer, split, loud, below, above⟩ := soundingEntry_split h
    obtain ⟨unacked, warns⟩ := e.sounds_iff.mp loud
    refine ⟨older, newer, split, unacked, warns, fun x hx new => ?_, fun x hx new => ?_⟩
    · by_cases info : x.severity = .info
      · exact .inr info
      · exact .inl (below x hx (x.sounds_iff.mpr ⟨new, info⟩))
    · by_cases info : x.severity = .info
      · rw [info]
        exact Nat.zero_le _
      · exact above x hx (x.sounds_iff.mpr ⟨new, info⟩)
  case every =>
    rintro rfl
    simp [hornOn_iff]
  case horn =>
    intro follows
    have of {t : State} (h : HornFollows s t) : follows t := ⟨h.sound, h.kept, h.moved⟩
    refine ⟨fun i present stays => ?_, fun i serving => ?_⟩
    · obtain ⟨-, same⟩ | ⟨run, halts, entered⟩ := State.evaluate_cases s i present
      · rw [same]
        exact of (HornFollows.evaluate0 sound i present)
      · rw [entered, State.haltEntry_mode halts, run] at stays
        cases stays
    · obtain ⟨u, outcome | ⟨e, outcome⟩⟩ := ownAckAlarm_id s.tookRequest i
      · exact ⟨_, exec_ackAlarm serving outcome,
          of ((HornFollows.of_sound sound).of_eq (u := s) (t := s.tookRequest.busyWith u) rfl rfl rfl).settle⟩
      · have acked : HornFollows s.tookRequest (s.tookRequest.ackEntry e).1 :=
          HornFollows.acknowledged (s := s.tookRequest) sound e
        have busy : HornFollows s ((s.tookRequest.ackEntry e).1.busyWith u) :=
          ⟨acked.sound, acked.kept, acked.moved⟩
        exact ⟨_, exec_ackAlarm serving outcome, of busy.settle⟩

end

section
/-! PROOFS. Requests that change nothing beside what they clear: the tests every request passes, CLEAR_COUNTERS, and
the replies of the reads (R141, R162, R163, R181, R186 to R188). -/

namespace Sys2Proof.Machine

/-! ### A reply fixed over any effect (R180, R182) -/

/-- `t` is `v` with a reply fixed and the arbiter run: what that leaves of `v`. -/
structure Replies (words : List Word) (v t : State) : Prop where
  replied : Replied v t words
  own     : ∀ s, t.withAlarmsOf s = v.withAlarmsOf s
  alarms  : AlarmFrame [] v t
  mode    : t.mode = v.mode
  walk    : t.walk = v.walk
  list    : t.alarm.list = v.alarm.list
  sent    : v.links.u.txQueue <+: t.links.u.txQueue

theorem State.replies (v : State) (words : List Word) :
    Replies words v (v.busyWith (.replying words false)).settle := by
  have placed := State.settle_effect (v.busyWith (.replying words false))
  have kept := State.settle_mode (v.busyWith (.replying words false))
  exact {
    replied := State.settle_replied rfl
    own := fun s => calc
      (v.busyWith (.replying words false)).settle.withAlarmsOf s
        = ((v.busyWith (.replying words false)).settle.withAlarmsOf
            (v.busyWith (.replying words false))).withAlarmsOf s := rfl
      _ = v.withAlarmsOf s := by rw [placed.own]; rfl
    alarms := (AlarmFrame.busyWith v _).then_quiet placed.alarms kept List.prefix_rfl placed.sent
    mode := kept
    walk := State.settle_walk _
    list := State.settle_list _
    sent := placed.sent }

/-- Placing frames after a change that leaves the Alarm Unit and the U-port transmit queue alone. -/
theorem AlarmFrame.of_alarm {s v t : State} (h : AlarmFrame [] v t) (alarm : v.alarm = s.alarm)
    (queue : v.links.u.txQueue = s.links.u.txQueue) (mode : t.mode = s.mode) : AlarmFrame [] s t := by
  obtain ⟨status, report, entry, owed, cause, -⟩ := h
  have same_mode : v.mode = s.mode := congrArg AlarmUnit.mode alarm
  have same_status (i : AlarmId) : v.status i = s.status i := congrArg (·.status[i]) alarm
  have same_entry (i : AlarmId) : v.entry? i = s.entry? i :=
    congrArg (·.list.find? fun e => decide (e.id = i)) alarm
  simp only [untouchedId, Reported, same_status, same_entry, same_mode, queue, alarm]
    at status report entry owed cause
  exact ⟨status, report, entry, owed, cause, .inl mode⟩

/-! ### Malformed requests (R181) -/

/-- What the head of the queue holds when the unit is FREE. -/
theorem State.headRequest_of {s : State} {f : Frame} {rest : List Frame} (free : s.mgmt.unit = .free)
    (queue : s.mgmt.queue = f :: rest) : s.headRequest = some f := by
  simp [State.headRequest, free, queue]

theorem requestCode_cons {f : Frame} {code : Word} {args : List Word} (words : f.words = code :: args) :
    requestCode f = some code.toNat := by
  simp [requestCode, words]

/-- A number of argument words that the catalogue does not allow (R181). -/
theorem State.serve_refused {s : State} {f : Frame} {rest : List Frame} {code : Nat} {args : List Word}
    {allowed : Nat → Bool} (owner : List Word → State → State × MgmtUnit) (working : s.working = true)
    (free : s.mgmt.unit = .free) (queue : s.mgmt.queue = f :: rest) (words : f.words = wordOfNat code :: args)
    (hc : code < 65536) (refused : allowed args.length = false) :
    s.serve code allowed owner = (s.tookRequest.busyWith (.replying [wordOfNat code, 2] false)).settle := by
  have asks : requestCode f = some code := by
    rw [requestCode_cons words]
    simp [wordOfNat, Nat.mod_eq_of_lt hc]
  rw [State.serve_taken allowed owner working (State.headRequest_of free queue) asks, words, List.tail_cons, refused]
  rfl

theorem unknownRequest_taken {s : State} {f : Frame} {rest : List Frame} (working : s.working = true)
    (free : s.mgmt.unit = .free) (queue : s.mgmt.queue = f :: rest) :
    unknownRequest s = match requestCode f with
      | none => (s.tookRequest.busyWith (.replying [0, 1] false)).settle
      | some code => if inCatalogue code then s
        else (s.tookRequest.busyWith (.replying [wordOfNat code, 1] false)).settle := by
  simp only [unknownRequest, State.atWork, working, State.headRequest_of free queue, if_true]
  cases requestCode f <;> rfl

theorem wordOfNat_toNat (w : Word) : wordOfNat w.toNat = w := by
  simp [wordOfNat]

theorem inCatalogue_eq_false {code : Word} (h : code = 0 ∨ 16 ≤ code.toNat) : inCatalogue code.toNat = false := by
  obtain rfl | h := h
  · rfl
  · simp only [inCatalogue, Bool.and_eq_false_iff, decide_eq_false_iff_not]
    omega

/-! ### CLEAR_COUNTERS (R17, R187) -/

/-- The counters that CLEAR_COUNTERS names at 0. -/
def State.countersCleared (s : State) : State :=
  { s with
    mgmt := { s.mgmt with discards := 0 }
    walk := { s.walk with queueFull := 0 }
    links := { s.links with
      superseded := 0
      u := { s.links.u with counters := Counters.zero }
      d := { s.links.d with counters := Counters.zero } } }

theorem ownClearCounters_eq (args : List Word) (s : State) :
    ownClearCounters args s = (s.countersCleared, .replying [15, 0] false) := rfl

theorem exec_clearCounters {s : State} (h : Serving s 15 []) :
    exec .clearCounters s = .next (s.tookRequest.countersCleared.busyWith (.replying [15, 0] false)).settle :=
  congrArg _ (State.serve_owner h (by decide) rfl (ownClearCounters_eq _ _))

end Sys2Proof.Machine

open Sys2Proof Sys2Proof.Machine

/-- Settles O51: a request that fails a test is answered over the state with the request taken
(`State.serve_refused`); what CLEAR_COUNTERS clears is no alarm. -/
theorem malformedRequestsAndClearCounters : Obligations.MalformedRequestsAndClearCounters := by
  refine ⟨fun f rest s working free queue => ?malformed, fun s serving => ?clear⟩
  case malformed =>
    have unknown := unknownRequest_taken working free queue
    refine ⟨fun words => answersOnly_of_exec (congrArg _ (unknown.trans ?_)), fun code args words outside =>
      answersOnly_of_exec (congrArg _ (unknown.trans ?_)), fun c code args allowed words names refused => ?_⟩
    · simp [requestCode, words]
    · simp [requestCode_cons words, inCatalogue_eq_false outside, wordOfNat_toNat]
    · have refuses {test : Nat → Bool} {owner : List Word → State → State × MgmtUnit} (hc : code < 65536)
          (fails : test args.length = false) (runs : exec c s = .next (s.serve code test owner)) :
          AnswersOnly c s [wordOfNat code, 2] :=
        answersOnly_of_exec (runs.trans (congrArg _
          (State.serve_refused owner working free queue words hc fails)))
      have inexact {n : Nat} (ne : ¬args.length = n) : exactly n args.length = false := by
        simpa [exactly] using ne
      obtain ⟨which, rfl⟩ | ⟨which, rfl⟩ | ⟨which, rfl⟩ | ⟨which, rfl⟩ | ⟨which, rfl⟩ | ⟨which, rfl⟩ := names
      · simp only [List.mem_cons, Prod.mk.injEq, List.not_mem_nil, or_false] at which
        obtain ⟨rfl, rfl⟩ | ⟨rfl, rfl⟩ | ⟨rfl, rfl⟩ | ⟨rfl, rfl⟩ | ⟨rfl, rfl⟩ | ⟨rfl, rfl⟩ | ⟨rfl, rfl⟩ := which <;>
          exact refuses (by decide) (inexact refused) rfl
      · simp only [List.mem_cons, Prod.mk.injEq, List.not_mem_nil, or_false] at which
        obtain ⟨rfl, rfl⟩ | ⟨rfl, rfl⟩ | ⟨rfl, rfl⟩ := which <;>
          exact refuses (by decide) (inexact refused) rfl
      · simp only [List.mem_cons, Prod.mk.injEq, List.not_mem_nil, or_false] at which
        obtain ⟨rfl, rfl⟩ | ⟨rfl, rfl⟩ := which <;> exact refuses (by decide) (inexact refused) rfl
      · obtain ⟨rfl, rfl⟩ := Prod.mk.inj which
        exact refuses (by decide) (inexact refused) rfl
      · obtain ⟨rfl, rfl⟩ := Prod.mk.inj which
        exact refuses (test := fun n => decide (2 ≤ n)) (by decide) (decide_eq_false refused) rfl
      · obtain ⟨rfl, rfl⟩ := Prod.mk.inj which
        exact refuses (test := fun n => n == 1 || n == 2) (by decide) (by simpa using refused) rfl
  case clear =>
    have r := s.tookRequest.countersCleared.replies [15, 0]
    exact ⟨_, exec_clearCounters serving, r.replied, r.own s, r.walk,
      r.alarms.of_alarm rfl rfl r.mode, r.list, r.mode⟩

end

section
/-! PROOFS. READ_PAGE, READ_ALARMS, READ_ALARM_STATUS and READ_WALK: their data word by word, and BAD_ARGUMENT (R141,
R162, R163, R186, R188). -/

namespace Sys2Proof.Machine

/-! ### The words of a record (R188) -/

theorem ofBytes_eq (hi lo : Byte) : ofBytes hi lo = wordOfNat (256 * hi.toNat + lo.toNat) := by
  apply BitVec.eq_of_toNat_eq
  have low := lo.isLt
  have high := hi.isLt
  rw [ofBytes, BitVec.toNat_append, ← Nat.shiftLeft_add_eq_or_of_lt low, Nat.shiftLeft_eq, wordOfNat,
    BitVec.toNat_ofNat]
  omega

theorem horn_bits (h : BitVec 4) : h.toNat = (h.getLsbD 0).toNat + 2 * (h.getLsbD 1).toNat
    + 4 * (h.getLsbD 2).toNat + 8 * (h.getLsbD 3).toNat := by
  revert h
  decide

theorem severity_bits (x : Severity) :
    x.code = (x.code.testBit 0).toNat + 2 * (x.code.testBit 1).toNat := by
  cases x <;> decide

/-- The attributes word of an entry, its fields at their places. -/
theorem entryAttributes_eq (e : Entry) (st : AlarmStatus) :
    entryAttributes e st = BitVec.ofNat 16 (e.severity.code + 4 * e.latched.toNat + 16 * e.horn.toNat
      + 256 * e.acked.toNat + 512 * st.condition.toNat + 1024 * st.forced.toNat) := by
  rw [entryAttributes, flagWord]
  congr 1
  have sev := severity_bits e.severity
  have horn := horn_bits e.horn
  simp only [List.cons_append, List.nil_append, List.foldr_cons, List.foldr_nil, Bool.toNat_false]
  omega

theorem statusFlags_toNat (st : AlarmStatus) (listed : Bool) :
    (statusFlags st listed).toNat = st.condition.toNat + 2 * st.armed.toNat + 4 * st.forced.toNat
      + 8 * st.report.toNat + 16 * listed.toNat := by
  have h1 := st.condition.toNat_le
  have h2 := st.armed.toNat_le
  have h3 := st.forced.toNat_le
  have h4 := st.report.toNat_le
  have h5 := listed.toNat_le
  simp only [statusFlags, flagWord, List.foldr_cons, List.foldr_nil, BitVec.toNat_setWidth, BitVec.toNat_ofNat]
  omega

theorem State.statusWords_eq (s : State) (i : AlarmId) :
    s.statusWords i =
      [ wordOfNat (256 * (s.status i).occurred.toNat + (s.status i).condition.toNat
          + 2 * (s.status i).armed.toNat + 4 * (s.status i).forced.toNat + 8 * (s.status i).report.toNat
          + 16 * (s.entry? i).isSome.toNat)
        , wordOfNat (256 * (s.status i).count.toNat + (s.status i).rearm.toNat)
        , (s.status i).lastRaise.setWidth 16 ] := by
  rw [State.statusWords, ofBytes_eq, ofBytes_eq, statusFlags_toNat]
  simp only [Nat.add_assoc]

theorem State.entryWords_eq (s : State) (e : Entry) :
    s.entryWords e =
      [ wordOfNat e.id.val
        , BitVec.ofNat 16 (e.severity.code + 4 * e.latched.toNat + 16 * e.horn.toNat + 256 * e.acked.toNat
            + 512 * (s.status e.id).condition.toNat + 1024 * (s.status e.id).forced.toNat)
        , wordOfNat e.factor, (e.raised >>> 16).setWidth 16, e.raised.setWidth 16 ] := by
  rw [State.entryWords, entryAttributes_eq]
  rfl

/-! ### READ_PAGE (R186) -/

theorem ownReadPage_ok {s : State} {idWord off count : Word} {id : PageId} (names : pageOfId idWord.toNat = some id)
    (fits : 1 ≤ count.toNat ∧ count.toNat ≤ 58 ∧ off.toNat + count.toNat ≤ id.size) :
    ownReadPage [idWord, off, count] s = (s, .replying (3 :: 0 :: (List.range count.toNat).map fun k =>
      Memory.read (s.page id).words (off.toNat + k)) false) := by
  simp only [ownReadPage, List.getD_cons_zero, List.getD_cons_succ, names, if_pos fits]
  rfl

theorem ownReadPage_bad {s : State} {idWord off count : Word}
    (bad : ∀ id, pageOfId idWord.toNat = some id →
      ¬(1 ≤ count.toNat ∧ count.toNat ≤ 58 ∧ off.toNat + count.toNat ≤ id.size)) :
    ownReadPage [idWord, off, count] s = (s, .replying [3, 2] false) := by
  simp only [ownReadPage, List.getD_cons_zero, List.getD_cons_succ]
  cases names : pageOfId idWord.toNat with
  | none => rfl
  | some id =>
    dsimp only
    rw [if_neg (bad id names)]
    rfl

/-! ### The requests, each leaving the state alone -/

theorem readPage_answersOnly {s : State} {words args : List Word} (h : Serving s 3 args) (three : args.length = 3)
    (outcome : ownReadPage args s.tookRequest = (s.tookRequest, .replying words false)) : AnswersOnly .readPage s words :=
  answersOnly_of_exec (congrArg _ (State.serve_owner h (by decide) (by rw [three]; rfl) outcome))

theorem readAlarms_answersOnly {s : State} {words : List Word} {start : Word} (h : Serving s 11 [start])
    (outcome : ownReadAlarms [start] s.tookRequest = (s.tookRequest, .replying words false)) :
    AnswersOnly .readAlarms s words :=
  answersOnly_of_exec (congrArg _ (State.serve_owner h (by decide) rfl outcome))

theorem readAlarmStatus_answersOnly {s : State} {words : List Word} {first count : Word}
    (h : Serving s 12 [first, count])
    (outcome : ownReadAlarmStatus [first, count] s.tookRequest = (s.tookRequest, .replying words false)) :
    AnswersOnly .readAlarmStatus s words :=
  answersOnly_of_exec (congrArg _ (State.serve_owner h (by decide) rfl outcome))

theorem readWalk_answersOnly {s : State} {words more : List Word} {part : Word} (h : Serving s 14 (part :: more))
    (few : more.length ≤ 1)
    (outcome : ownReadWalk (part :: more) s.tookRequest = (s.tookRequest, .replying words false)) :
    AnswersOnly .readWalk s words := by
  refine answersOnly_of_exec (congrArg _ (State.serve_owner h (by decide) ?_ outcome))
  rw [List.length_cons]
  obtain e | e : more.length = 0 ∨ more.length = 1 := by omega
  · rw [e]; rfl
  · rw [e]; rfl

/-! ### READ_WALK (R141) -/

/-- Part 0 and part 1 by the part word's value. -/
theorem part_toNat {part : Word} {n : Nat} (hn : n < 65536) : part.toNat = n ↔ part = BitVec.ofNat 16 n := by
  constructor
  · intro h
    apply BitVec.eq_of_toNat_eq
    rw [h, BitVec.toNat_ofNat, Nat.mod_eq_of_lt (by omega)]
  · rintro rfl
    rw [BitVec.toNat_ofNat, Nat.mod_eq_of_lt (by omega)]

theorem ownReadWalk_sequencer (s : State) (more : List Word) :
    ownReadWalk (0 :: more) s = (s, .replying (14 :: 0 :: s.sequencerData) false) := rfl

theorem ownReadWalk_history {s : State} {start : Word} (h : start.toNat ≤ 7) :
    ownReadWalk [1, start] s = (s, .replying (14 :: 0 :: s.historyData start.toNat) false) :=
  if_pos h

theorem ownReadWalk_start {s : State} {start : Word} (h : 8 ≤ start.toNat) :
    ownReadWalk [1, start] s = (s, .replying [14, 2] false) :=
  if_neg (show ¬start.toNat ≤ 7 by omega)

theorem ownReadWalk_part {s : State} {part : Word} (more : List Word) (h0 : part ≠ 0) (h1 : part ≠ 1) :
    ownReadWalk (part :: more) s = (s, .replying [14, 2] false) := by
  have not0 : ¬part.toNat = 0 := mt (part_toNat (by decide)).mp h0
  have not1 : ¬part.toNat = 1 := mt (part_toNat (by decide)).mp h1
  simp only [ownReadWalk, if_neg not0, if_neg not1]
  rfl

theorem currentWords_some (c : CurrentStep) :
    currentWords (some c) =
      [wordOfNat c.record.direction.code, wordOfNat c.record.steer] ++ wordsOfTime c.record.requestTime
        ++ wordsOfTime c.start ++ [(c.phase.map fun ph => wordOfNat ph.code).getD noneWord]
        ++ (c.phaseStart.map wordsOfTime).getD [noneWord, noneWord]
        ++ wordsOfTime c.p1 ++ wordsOfTime c.p2 ++ wordsOfTime c.p3 ++ wordsOfTime c.p4
        ++ [(c.cause.map fun x => wordOfNat x.code).getD noneWord] := by
  rw [currentWords, optionWord_eq, optionWord_eq, Option.map_map, Option.map_map]
  cases c.phaseStart <;> rfl

end Sys2Proof.Machine

open Sys2Proof Sys2Proof.Machine

/-- Settles O53: each request leaves the state alone; its data are the listed words, the flags at their places
(`State.entryWords_eq`, `State.statusWords_eq`). -/
theorem pageAndAlarmReadsReport : Obligations.PageAndAlarmReadsReport := by
  refine ⟨fun idWord off count s serving => ⟨fun id names least most within => ?page, fun bad => ?badPage⟩,
    fun s => ⟨fun start serving => ⟨fun low => ?alarms, fun high => ?badStart⟩, fun first count serving =>
      ⟨fun least most within => ?status, fun bad => ?badStatus⟩⟩⟩
  case page => exact readPage_answersOnly serving rfl (ownReadPage_ok names ⟨least, most, within⟩)
  case badPage => exact readPage_answersOnly serving rfl (ownReadPage_bad bad)
  case alarms =>
    refine readAlarms_answersOnly serving ?_
    simp only [← State.entryWords_eq]
    exact if_pos low
  case badStart =>
    refine readAlarms_answersOnly serving ?_
    exact if_neg (show ¬start.toNat ≤ 23 by omega)
  case status =>
    refine readAlarmStatus_answersOnly serving ?_
    simp only [← State.statusWords_eq]
    exact if_pos ⟨show first.toNat ≤ 23 by omega, least, most, within⟩
  case badStatus =>
    refine readAlarmStatus_answersOnly serving ?_
    exact if_neg fun fits => bad fits.2

/-- Settles O54: the data of both parts are the listed words by definition, but for the fields that can be none. -/
theorem walkReadReports : Obligations.WalkReadReports := by
  intro s long none16 step
  refine ⟨fun part more serving zero few => ?sequencer, fun start serving => ⟨fun low => ?history, fun high => ?start⟩,
    fun serving => readWalk_answersOnly serving (by decide) rfl, fun part more serving few h0 h1 => ?part⟩
  case sequencer =>
    subst zero
    have current : step = currentWords s.walk.current := by
      show (match s.walk.current with | none => _ | some c => _) = _
      cases s.walk.current with
      | none => rfl
      | some c => exact (currentWords_some c).symm
    have lock : (s.walk.lockAngle.map wordOfNat).getD none16 = optionWord s.walk.lockAngle := (optionWord_eq _).symm
    rw [current, lock]
    refine readWalk_answersOnly serving few ((ownReadWalk_sequencer _ more).trans ?_)
    rw [State.sequencerData]
    simp only [List.append_assoc, List.cons_append, List.nil_append]
    rfl
  case history => exact readWalk_answersOnly serving le_rfl (ownReadWalk_history low)
  case start => exact readWalk_answersOnly serving le_rfl (ownReadWalk_start high)
  case part => exact readWalk_answersOnly serving few (ownReadWalk_part more h0 h1)

end

section
/-! PROOFS. Evaluations one after another: what a run of evaluations of different IDs leaves of the Alarm Unit, and that
each is taken as if it were made alone (R143, R147 to R153, R168). -/

namespace Sys2Proof.Machine

/-! ### One ID beside the evaluations of others -/

theorem Untaken.refl (s : State) (i : AlarmId) : Untaken s s i := ⟨rfl, rfl⟩

theorem Untaken.trans {s t u : State} {i : AlarmId} (h : Untaken s t i) (k : Untaken t u i) : Untaken s u i := by
  obtain ⟨status, entry⟩ := h
  obtain ⟨status', entry'⟩ := k
  exact ⟨by rw [← status, ← status'], entry'.trans entry⟩

/-- A status record is the same but for its report pending. -/
theorem Untaken.status_eq {s t : State} {i : AlarmId} (h : Untaken s t i) :
    ∃ r, t.status i = { s.status i with report := r } := by
  obtain ⟨status, -⟩ := h
  exact ⟨(t.status i).report, by rw [← status]⟩

/-- What an evaluation reads of its ID. -/
structure SameReading (s u : State) (i : AlarmId) : Prop where
  untaken    : Untaken s u i
  now        : u.now = s.now
  definition : u.definition i = s.definition i

/-- An evaluation made in a state that reads as `s` does. -/
theorem SameReading.taken {s t u : State} {i : AlarmId} {b : Bool} (h : SameReading s u i) (k : Taken u t i b) :
    Taken s t i b := by
  obtain ⟨untaken, now, definition⟩ := h
  have entry := untaken.2
  obtain ⟨r, status⟩ := untaken.status_eq
  have present (k : TakenPresent u t i) : TakenPresent s t i := by
    obtain ⟨condition, counted, kept, raised, stands⟩ := k
    simp only [countAfter, raisesNow, entryOf, status, entry, definition, now]
      at counted kept raised stands
    exact ⟨condition, counted, kept, raised, stands⟩
  cases b with
  | true => exact present k
  | false =>
    obtain ⟨taken_forced, free⟩ := (k : TakenAbsent u t i)
    simp only [absentOutcome, status, entry, definition] at taken_forced free
    exact ⟨fun hf => present (taken_forced hf), free⟩

/-- What an evaluation did stands while the ID is left alone and the mode does not go back to RUN. -/
theorem Taken.then_untaken {s t u : State} {i : AlarmId} {b : Bool} (h : Taken s t i b) (k : Untaken t u i)
    (halted : t.mode ≠ .run → u.mode ≠ .run) : Taken s u i b := by
  obtain ⟨status, entry⟩ := k
  have present (h : TakenPresent s t i) : TakenPresent s u i := by
    obtain ⟨condition, count, kept, raised, stands⟩ := h
    rw [← status] at condition count kept raised stands
    rw [← entry] at raised stands
    refine ⟨condition, count, kept, fun raises => ?_, stands⟩
    obtain ⟨joined, occurred, lastRaise, stops⟩ := raised raises
    exact ⟨joined, occurred, lastRaise, fun stop => halted (stops stop)⟩
  cases b with
  | true => exact present h
  | false =>
    obtain ⟨forced, free⟩ := (h : TakenAbsent s t i)
    rw [← status, ← entry] at free
    exact ⟨fun hf => present (forced hf), free⟩

/-! ### A run of evaluations -/

/-- From `s` to `t` the Walk Sequencer may change and IDs of `ids` are evaluated, HALT entry following where the raise of
one of them moves RUN to HALT. -/
structure Acted (ids : List AlarmId) (s t : State) : Prop where
  only  : t = (s.setAlarm t.alarm).setWalk t.walk
  frame : AlarmFrame ids s t
  halts : t.mode = s.mode ∨ s.mode = .run ∧ t.mode = .halt ∧ ∃ i ∈ ids, StopRaised s t i

namespace Acted

variable {ids ids' : List AlarmId} {s t u : State} {i : AlarmId}

theorem links (h : Acted ids s t) : t.links = s.links := by rw [h.only]; rfl
theorem store (h : Acted ids s t) : t.store = s.store := by rw [h.only]; rfl
theorem image (h : Acted ids s t) : t.image = s.image := by rw [h.only]; rfl
theorem gov (h : Acted ids s t) : t.gov = s.gov := by rw [h.only]; rfl
theorem mgmt (h : Acted ids s t) : t.mgmt = s.mgmt := by rw [h.only]; rfl
theorem now (h : Acted ids s t) : t.now = s.now := congrArg Image.timeBase h.image
theorem definition (h : Acted ids s t) (i : AlarmId) : t.definition i = s.definition i := by
  unfold State.definition State.pageValid State.page
  rw [h.store]

theorem refl (s : State) : Acted [] s s := ⟨rfl, AlarmFrame.refl s, .inl rfl⟩

theorem setWalk (s : State) (w : WalkSeq) : Acted [] s (s.setWalk w) :=
  ⟨rfl, ⟨fun _ _ => rfl, fun _ _ => id, fun _ _ => rfl, fun _ => .inl, rfl, .inl rfl⟩, .inl rfl⟩

theorem untaken (h : Acted ids s t) (hi : i ∉ ids) (brake : i = idBrakeSlip → t.mode = s.mode) : Untaken s t i :=
  ⟨h.frame.status i ⟨hi, brake⟩, h.frame.entry i ⟨hi, brake⟩⟩

theorem sameReading (h : Acted ids s t) (hi : i ∉ ids) (brake : i = idBrakeSlip → t.mode = s.mode) :
    SameReading s t i := ⟨h.untaken hi brake, h.now, h.definition i⟩

/-- The mode does not go back to RUN. -/
theorem stays_halted (h : Acted ids s t) (halted : s.mode ≠ .run) : t.mode ≠ .run := by
  obtain same | ⟨run, -⟩ := h.halts
  · rwa [same]
  · exact absurd run halted

/-- After HALT entry the mode stands. -/
theorem stays_halt (h : Acted ids s t) (halt : s.mode = .halt) : t.mode = s.mode := by
  obtain same | ⟨run, -⟩ := h.halts
  · exact same
  · rw [halt] at run; cases run

/-- Where the mode is the same in the end, it was the same between. -/
theorem mode_between (h : Acted ids s t) (k : Acted ids' t u) (same : u.mode = s.mode) :
    t.mode = s.mode ∧ u.mode = t.mode := by
  obtain e | ⟨run, halt, -⟩ := h.halts
  · exact ⟨e, same.trans e.symm⟩
  · have halted : u.mode ≠ .run := k.stays_halted (by rw [halt]; decide)
    exact absurd (same.trans run) halted

/-- One run of evaluations after another of other IDs. -/
theorem trans (h : Acted ids s t) (k : Acted ids' t u) (apart : ∀ i ∈ ids, i ∉ ids') : Acted (ids ++ ids') s u := by
  have between {i} (hi : untouchedId (ids ++ ids') s u i) : untouchedId ids s t i ∧ untouchedId ids' t u i := by
    obtain ⟨mem, brake⟩ := hi
    rw [List.mem_append, not_or] at mem
    exact ⟨⟨mem.1, fun e => (h.mode_between k (brake e)).1⟩, ⟨mem.2, fun e => (h.mode_between k (brake e)).2⟩⟩
  have halts : u.mode = s.mode ∨ s.mode = .run ∧ u.mode = .halt ∧ ∃ i ∈ ids ++ ids', StopRaised s u i := by
    obtain same | ⟨run, halt, i, hi, raised⟩ := h.halts
    · obtain same' | ⟨run', halt', j, hj, before, raised, joined⟩ := k.halts
      · exact .inl (same'.trans same)
      · have out : j ∉ ids := fun mem => apart j mem hj
        have untaken := h.untaken out fun _ => same
        obtain ⟨r, status⟩ := untaken.status_eq
        rw [status, h.now] at raised
        rw [h.definition] at joined
        exact .inr ⟨same.symm.trans run', halt', j, List.mem_append_right _ hj, untaken.2.symm.trans before, raised, joined⟩
    · have stays := k.stays_halt halt
      exact .inr ⟨run, stays.trans halt, i, List.mem_append_left _ hi,
        raised.of_untaken (k.untaken (apart i hi) fun _ => stays)⟩
  exact {
    only := by rw [k.only, h.only]; rfl
    frame := {
      status := fun i hi => ((h.untaken (between hi).1.1 (between hi).1.2).trans
        (k.untaken (between hi).2.1 (between hi).2.2)).1
      report := fun i hi pending => h.frame.report i (between hi).1 (k.frame.report i (between hi).2 pending)
      entry := fun i hi => (k.frame.entry i (between hi).2).trans (h.frame.entry i (between hi).1)
      owed := fun i pending => (h.frame.owed i pending).trans (k.frame.owed i) (by rw [h.links]) (by rw [k.links])
      cause := k.frame.cause.trans h.frame.cause
      mode := halts.imp_right fun ⟨run, halt, i, hi, raised⟩ => ⟨run, halt, i, .inl hi, raised⟩ }
    halts := halts }

/-- The IDs named are no more than a bound. -/
theorem mono (h : Acted ids s t) (sub : ∀ i ∈ ids, i ∈ ids') : Acted ids' s t := by
  have out {i} (hi : untouchedId ids' s t i) : untouchedId ids s t i := ⟨fun mem => hi.1 (sub i mem), hi.2⟩
  have halts : t.mode = s.mode ∨ s.mode = .run ∧ t.mode = .halt ∧ ∃ i ∈ ids', StopRaised s t i :=
    h.halts.imp_right fun ⟨run, halt, i, hi, raised⟩ => ⟨run, halt, i, sub i hi, raised⟩
  exact {
    only := h.only
    frame := {
      status := fun i hi => h.frame.status i (out hi)
      report := fun i hi => h.frame.report i (out hi)
      entry := fun i hi => h.frame.entry i (out hi)
      owed := h.frame.owed
      cause := h.frame.cause
      mode := halts.imp_right fun ⟨run, halt, i, hi, raised⟩ => ⟨run, halt, i, .inl hi, raised⟩ }
    halts := halts }

end Acted

/-- `t` is `s` after evaluations of the IDs `ids` and the HALT entry they may bring about, which alone moves the Walk
Sequencer. -/
structure Evaluated (ids : List AlarmId) (s t : State) : Prop extends Acted ids s t where
  walk : WalkFollows s t

namespace Evaluated

variable {ids ids' : List AlarmId} {s t u : State} {i : AlarmId}

theorem refl (s : State) : Evaluated [] s s := ⟨.refl s, (Effect.refl s).walk⟩

/-- One run of evaluations after another of other IDs. -/
theorem trans (h : Evaluated ids s t) (k : Evaluated ids' t u) (apart : ∀ i ∈ ids, i ∉ ids') :
    Evaluated (ids ++ ids') s u where
  toActed := h.toActed.trans k.toActed apart
  walk := by
    have walk := h.walk
    have walk' := k.walk
    rw [WalkFollows] at walk walk' ⊢
    obtain same | ⟨run, halt, -⟩ := h.halts
    · rw [if_pos same] at walk
      rw [walk', walk, same, h.now]
    · have moved : t.mode ≠ s.mode := by rw [halt, run]; decide
      have stays := k.stays_halt halt
      rw [walk', if_pos stays, walk, if_neg moved, stays, if_neg moved]

/-- The IDs named are no more than a bound. -/
theorem mono (h : Evaluated ids s t) (sub : ∀ i ∈ ids, i ∈ ids') : Evaluated ids' s t :=
  ⟨h.toActed.mono sub, h.walk⟩

theorem effect (h : Evaluated ids s t) : Effect ids s t s where
  own := by rw [h.only]; rfl
  alarms := h.frame
  walk := h.walk
  unit := .inl (by rw [h.mgmt])
  sent := by rw [h.links]

end Evaluated

theorem State.evaluate_evaluated (s : State) (i : AlarmId) (b : Bool) : Evaluated [i] s (s.evaluate i b) where
  only := State.evaluate_frame s i b
  frame := State.evaluate_alarmFrame s i b
  walk := State.evaluate_walk s i b
  halts := by
    obtain ⟨same, e⟩ | ⟨run, halts, e⟩ := State.evaluate_cases s i b
    · exact .inl (by rw [e]; exact same)
    · rw [e]
      exact .inr ⟨run, State.haltEntry_mode halts, i, List.mem_singleton_self i, State.evaluate_stopRaised run halts⟩

/-- One evaluation is taken as its rules say; of SWING_BRAKE_SLIP, where it does not enter HALT (R140). -/
theorem State.evaluate_taken' (s : State) (i : AlarmId) (b : Bool)
    (brake : i = idBrakeSlip → (s.evaluate i b).mode = s.mode) : Taken s (s.evaluate i b) i b := by
  obtain ⟨-, e⟩ | ⟨run, halts, e⟩ := State.evaluate_cases s i b
  · rw [e]; exact State.evaluate0_taken s i b
  · refine State.evaluate_taken s (fun slip => ?_) b
    have moved := brake slip
    rw [e, State.haltEntry_mode halts, run] at moved
    cases moved

theorem State.evaluateAll_cons (s : State) (e : AlarmId × Bool) (evs : List (AlarmId × Bool)) :
    s.evaluateAll (e :: evs) = (s.evaluate e.1 e.2).evaluateAll evs := rfl

/-- The evaluations of one event are of different IDs (R143). -/
theorem State.evaluateAll_evaluated (s : State) {evs : List (AlarmId × Bool)} (once : (evs.map Prod.fst).Nodup) :
    Evaluated (evs.map Prod.fst) s (s.evaluateAll evs) := by
  induction evs generalizing s with
  | nil => exact .refl s
  | cons e evs ih =>
    obtain ⟨out, once⟩ := List.nodup_cons.mp once
    have first := s.evaluate_evaluated e.1 e.2
    have rest := ih (s.evaluate e.1 e.2) once
    exact first.trans rest fun i hi => (List.mem_singleton.mp hi) ▸ out

/-- Each of them is taken as if it were made alone. -/
theorem State.evaluateAll_taken (s : State) {evs : List (AlarmId × Bool)} (once : (evs.map Prod.fst).Nodup)
    {i : AlarmId} {b : Bool} (mem : (i, b) ∈ evs) (brake : i = idBrakeSlip → (s.evaluateAll evs).mode = s.mode) :
    Taken s (s.evaluateAll evs) i b := by
  induction evs generalizing s with
  | nil => cases mem
  | cons e evs ih =>
    obtain ⟨out, once⟩ := List.nodup_cons.mp once
    have first := s.evaluate_evaluated e.1 e.2
    have rest := (s.evaluate e.1 e.2).evaluateAll_evaluated once
    have between (h : i = idBrakeSlip) := first.mode_between rest.toActed (brake h)
    obtain rfl | mem := List.mem_cons.mp mem
    · exact (State.evaluate_taken' s i b fun h => (between h).1).then_untaken
        (rest.untaken out fun h => (between h).2) rest.stays_halted
    · have ne : i ≠ e.1 := fun h => out (h ▸ List.mem_map_of_mem mem)
      have before := first.sameReading (mt List.mem_singleton.mp ne) fun h => (between h).1
      exact before.taken (ih _ once mem fun h => (between h).2)

/-- The order in which the evaluations of one event are taken makes no difference to what each is (R143). -/
theorem State.evaluateAll_arranged (s : State) (order : List Nat) {evs : List (AlarmId × Bool)}
    (once : (evs.map Prod.fst).Nodup) :
    Evaluated (evs.map Prod.fst) s (s.evaluateAll (arrange order evs))
      ∧ ∀ i b, (i, b) ∈ evs → (i = idBrakeSlip → (s.evaluateAll (arrange order evs)).mode = s.mode) →
          Taken s (s.evaluateAll (arrange order evs)) i b := by
  have perm := arrange_perm order evs once
  have once' : ((arrange order evs).map Prod.fst).Nodup := (perm.map Prod.fst).nodup_iff.mpr once
  exact ⟨(s.evaluateAll_evaluated once').mono fun i hi => (perm.map Prod.fst).mem_iff.mp hi,
    fun i b mem brake => s.evaluateAll_taken once' (perm.mem_iff.mpr mem) brake⟩

/-! ### What follows an event's evaluations -/

/-- What leaves the Alarm Unit alone and keeps the frames that wait upward, after evaluations. -/
theorem AlarmFrame.then_same {ids : List AlarmId} {s t t' : State} (h : AlarmFrame ids s t) (alarm : t'.alarm = t.alarm)
    (queue : t.links.u.txQueue <+: t'.links.u.txQueue) : AlarmFrame ids s t' := by
  have same_mode : t'.mode = t.mode := congrArg AlarmUnit.mode alarm
  have same_status (i : AlarmId) : t'.status i = t.status i := congrArg (·.status[i]) alarm
  have same_entry (i : AlarmId) : t'.entry? i = t.entry? i :=
    congrArg (·.list.find? fun e => decide (e.id = i)) alarm
  obtain ⟨status, report, entry, owed, cause, mode⟩ := h
  refine ⟨?_, ?_, ?_, ?_, by rw [alarm]; exact cause, ?_⟩
  · simpa only [untouchedId, same_status, same_mode] using status
  · simpa only [untouchedId, same_status, same_mode] using report
  · simpa only [untouchedId, same_entry, same_mode] using entry
  · refine fun i pending => (owed i pending).imp (fun still => by rw [same_status]; exact still) ?_
    rintro ⟨x, hx, alm⟩
    exact ⟨x, (queue.drop _).subset hx, alm⟩
  · rw [same_mode]
    refine mode.imp_right fun ⟨run, halt, i, hi, before, raised, joined⟩ => ⟨run, halt, i, hi, before, ?_, ?_⟩
    · rw [same_status]; exact raised
    · rw [same_entry]; exact joined

/-- An event's own effect after its evaluations. -/
theorem Effect.then_own {ids : List AlarmId} {s t t' u : State} (h : Effect ids s t u) (alarm : t'.alarm = t.alarm)
    (walk : t'.walk = t.walk) (unit : t'.mgmt.unit = t.mgmt.unit) (queue : t.links.u.txQueue <+: t'.links.u.txQueue) :
    Effect ids s t' (t'.withAlarmsOf s) where
  own := rfl
  alarms := h.alarms.then_same alarm queue
  walk := by
    have same_mode : t'.mode = t.mode := congrArg AlarmUnit.mode alarm
    rw [WalkFollows, walk, same_mode]
    exact h.walk
  unit := by rw [UnitFollows, unit]; exact h.unit
  sent := h.sent.trans queue

/-- Nor does it see the evaluations. -/
theorem Untaken.of_alarm {t t' : State} (alarm : t'.alarm = t.alarm) (i : AlarmId) : Untaken t t' i := by
  have same_status : t'.status i = t.status i := congrArg (·.status[i]) alarm
  have same_entry : t'.entry? i = t.entry? i := congrArg (·.list.find? fun e => decide (e.id = i)) alarm
  exact ⟨by rw [same_status], same_entry⟩

theorem Taken.then_own {s t t' : State} {i : AlarmId} {b : Bool} (h : Taken s t i b) (alarm : t'.alarm = t.alarm) :
    Taken s t' i b :=
  h.of_untaken (.of_alarm alarm i) (congrArg AlarmUnit.mode alarm)

end Sys2Proof.Machine
end

section
/-! PROOFS. One evaluation: the report it owes, the list it leaves, and an evaluation after an absent one (R147 to R156). -/

namespace Sys2Proof.Machine

/-! ### The report owed (R156) -/

/-- From `s` to `t` the ID owes a report where it did, and for a raise, a removal or a change of its entry's condition. -/
def Owes (s t : State) (i : AlarmId) : Prop :=
  (t.status i).report = ((s.status i).report
    || decide (¬(t.entry? i).isSome = (s.entry? i).isSome)
    || ((s.entry? i).isSome && !((t.status i).condition == (s.status i).condition)))

theorem State.present0_owes (s : State) (i : AlarmId) : Owes s (s.present0 i) i := by
  by_cases h : raisesNow s i
  · have unlisted : s.entry? i = none := h.2.2.2.1
    have listed := ((State.present0_taken s i).raised h).1
    rw [Owes, listed, State.present0_of_raises h, State.raise_status, unlisted]
    simp
  · obtain ⟨entry, -⟩ := (State.present0_taken s i).stands h
    rw [Owes, entry, State.present0_of_stands h]
    cases held : (s.status i).condition <;> simp [State.markPresent, held]

theorem State.absent0_owes (s : State) (i : AlarmId) : Owes s (s.absent0 i) i := by
  cases hf : (s.status i).forced with
  | true =>
    rw [State.absent0_of_forced hf]
    exact State.present0_owes s i
  | false =>
    have marked : (s.markAbsent i).status i =
        { s.status i with condition := false, count := 0, rearm := bump (s.status i).rearm } :=
      State.status_setStatus _ _ _
    have marked_entry : (s.markAbsent i).entry? i = s.entry? i := rfl
    obtain ⟨he, h⟩ | ⟨e, he, gone, h⟩ | ⟨e, he, -, -, h⟩ := State.absent0_of_free hf
    · rw [Owes, h, State.rearmTest_status, State.rearmTest_entry?, marked, marked_entry, he]
      simp
    · obtain rfl := State.entry?_id he
      rw [Owes, h, State.rearmTest_status, State.rearmTest_entry?, State.removeEntry_entry?, State.removeEntry_status, he]
      cases e.latched <;> simp
    · rw [Owes, h, State.rearmTest_status, State.rearmTest_entry?, State.setStatus_entry?, State.status_setStatus,
        marked, marked_entry, he]
      cases (s.status i).condition <;> simp

theorem State.evaluate0_owes (s : State) (i : AlarmId) (b : Bool) : Owes s (s.evaluate0 i b) i := by
  cases b
  · exact State.absent0_owes s i
  · exact State.present0_owes s i

/-! ### The list (R151 to R153) -/

/-- From `s` to `t` the list is as it was, has the ID's new entry at the tail, or has lost the ID's entry. -/
def ListMoves (s t : State) (i : AlarmId) : Prop :=
  t.alarm.list = s.alarm.list ∨ t.alarm.list = s.alarm.list ++ [entryOf s i]
    ∨ t.alarm.list = s.alarm.list.filter fun e => decide (e.id ≠ i)

theorem State.present0_listMoves (s : State) (i : AlarmId) : ListMoves s (s.present0 i) i := by
  by_cases h : raisesNow s i
  · exact .inr (.inl (by rw [State.present0_of_raises h, State.raise_list]; rfl))
  · exact .inl (by rw [State.present0_of_stands h]; rfl)

theorem State.absent0_listMoves (s : State) (i : AlarmId) : ListMoves s (s.absent0 i) i := by
  cases hf : (s.status i).forced with
  | true =>
    rw [State.absent0_of_forced hf]
    exact State.present0_listMoves s i
  | false =>
    obtain ⟨-, h⟩ | ⟨e, he, -, h⟩ | ⟨e, -, -, -, h⟩ := State.absent0_of_free hf
    · exact .inl (by rw [h, State.rearmTest_list]; rfl)
    · obtain rfl := State.entry?_id he
      exact .inr (.inr (by rw [h, State.rearmTest_list, State.removeEntry_list]; rfl))
    · exact .inl (by rw [h, State.rearmTest_list]; rfl)

theorem State.evaluate0_listMoves (s : State) (i : AlarmId) (b : Bool) : ListMoves s (s.evaluate0 i b) i := by
  cases b
  · exact State.absent0_listMoves s i
  · exact State.present0_listMoves s i

/-- HALT entry without a walk session evaluates nothing (R140). -/
theorem State.haltEntry_of_no_session {s : State} (h : s.walk.session = false) :
    s.haltEntry = s.setWalk (s.walk.haltEntry s.now) := by
  simp [State.haltEntry, h]

theorem State.evaluate_listMoves {s : State} {i : AlarmId} {b : Bool}
    (h : (s.evaluate i b).mode = s.mode ∨ s.walk.session = false) : ListMoves s (s.evaluate i b) i := by
  have moves := State.evaluate0_listMoves s i b
  obtain ⟨-, e⟩ | ⟨run, halts, e⟩ := State.evaluate_cases s i b
  · rw [e]; exact moves
  · obtain same | still := h
    · rw [e, State.haltEntry_mode halts, run] at same
      cases same
    · have walk : (s.evaluate0 i b).walk = s.walk := by rw [State.evaluate0_frame]; rfl
      rw [e, State.haltEntry_of_no_session (walk ▸ still)]
      exact moves

/-! ### HALT entry at the Walk Sequencer, by state and phase (R136) -/

/-- The Walk Sequencer with its queue emptied. -/
abbrev WalkSeq.emptied (w : WalkSeq) : WalkSeq := { w with queue := [] }

theorem WalkSeq.haltEntry_idle {w : WalkSeq} (h : w.state = .idle) (now : Time) : w.haltEntry now = w.emptied := by
  simp [WalkSeq.haltEntry, h]

theorem WalkSeq.haltEntry_prep {w : WalkSeq} (h : w.state = .prep) (now : Time) :
    w.haltEntry now = w.emptied.endStep now .halted := by
  simp [WalkSeq.haltEntry, WalkSeq.emptied, h]

theorem WalkSeq.haltEntry_setdown {w : WalkSeq} (h : w.state = .setdown) (now : Time) : w.haltEntry now = w.emptied := by
  simp [WalkSeq.haltEntry, h]

theorem WalkSeq.haltEntry_step_ends {w : WalkSeq} {c : CurrentStep} (h : w.state = .step) (current : w.current = some c)
    (phase : c.phase = some .rest ∨ c.phase = some .p1) (now : Time) :
    w.haltEntry now = w.emptied.endStep now .halted := by
  obtain p | p := phase <;> simp [WalkSeq.haltEntry, WalkSeq.emptied, WalkSeq.phase, h, current, p]

theorem WalkSeq.haltEntry_step_setsDown {w : WalkSeq} {c : CurrentStep} (h : w.state = .step)
    (current : w.current = some c) (phase : c.phase = some .p2 ∨ c.phase = some .p3 ∨ c.phase = some .p4) (now : Time) :
    w.haltEntry now = { w.emptied with state := .setdown, current := some { c with cause := some .halted } } := by
  obtain p | p | p := phase <;> simp [WalkSeq.haltEntry, WalkSeq.setDown, WalkSeq.phase, h, current, p]

/-! ### The HALT request (R167) -/

/-- What the HALT request does in RUN, before its reply (R136, R140, R167). -/
structure EntersHalt (s t : State) : Prop where
  only    : t = (s.setAlarm t.alarm).setWalk (s.walk.haltEntry s.now)
  mode    : t.mode = .halt
  list    : ¬(s.walk.session = true ∧ t.walk.session = false) → t.alarm.list = s.alarm.list
  entries : ∀ i, i ≠ idBrakeSlip → t.entry? i = s.entry? i
  brake   : s.walk.session = true → t.walk.session = false → Taken s t idBrakeSlip false

theorem State.enterHalt_entersHalt {s : State} (run : s.mode = .run) : EntersHalt s s.enterHalt := by
  let m : State := s.setAlarm { s.alarm with mode := .halt }
  have entered : s.enterHalt = m.haltEntry := if_pos run
  have frame := m.haltEntry_frame
  have walk : m.haltEntry.walk = s.walk.haltEntry s.now := by rw [frame]; rfl
  have reading : SameReading s (m.setWalk (s.walk.haltEntry s.now)) idBrakeSlip := ⟨⟨rfl, rfl⟩, rfl, rfl⟩
  rw [entered]
  refine ⟨frame, State.haltEntry_mode rfl, fun stays => ?_, (State.haltEntry_others m).entry, fun on off => ?_⟩
  · rw [walk] at stays
    have going : ¬(s.walk.session && !(s.walk.haltEntry s.now).session) = true := by simpa using stays
    have plain : m.haltEntry = m.setWalk (s.walk.haltEntry s.now) := if_neg going
    rw [plain]
    rfl
  · rw [walk] at off
    have ends : (s.walk.session && !(s.walk.haltEntry s.now).session) = true := by simp [on, off]
    have absent : m.haltEntry = (m.setWalk (s.walk.haltEntry s.now)).absent0 idBrakeSlip := if_pos ends
    rw [absent]
    exact reading.taken (b := false) (State.absent0_taken _ idBrakeSlip)

theorem State.enterHalt_of_not_run {s : State} (h : s.mode ≠ .run) : s.enterHalt = s := if_neg h

theorem exec_halt {s : State} (h : Serving s 7 []) :
    exec .halt s = .next (s.tookRequest.enterHalt.busyWith (.replying [7, 0] false)).settle :=
  congrArg _ (State.serve_owner h (by decide) rfl rfl)

/-! ### The RESTART request (R177) -/

theorem exec_restart {s v : State} {u : MgmtUnit} (h : Serving s 9 []) (outcome : ownRestart [] s.tookRequest = (v, u)) :
    exec .restart s = .next (v.busyWith u).settle :=
  congrArg _ (State.serve_owner h (by decide) rfl outcome)

/-- Once the RESTART reply is placed nothing of the part's own waits. -/
theorem State.placeReply_restart_grant {s : State} (h : s.firstReport = none) (words : List Word) :
    (s.placeReply words true).grant = none := by
  have none_left : (s.placeReply words true).firstReport = none := h
  rw [State.grant, none_left]
  rfl

/-- Over `n` free slots the RESTART reply still waits behind `n` reports, or it stands at the tail. -/
theorem State.arbitrate_restart (n : Nat) {s : State} {words : List Word} (waits : s.mgmt.unit = .replying words true) :
    ((State.arbitrate n s).mgmt.unit = .replying words true
        ∧ (State.arbitrate n s).links.u.txQueue.length = s.links.u.txQueue.length + n)
      ∨ ((State.arbitrate n s).mgmt.unit = .restartPlaced ∧ (State.arbitrate n s).links.u.txQueue.getLast? =
          some ⟨composeFrame kindMrep s.stationByte words, .restartReply⟩) := by
  induction n generalizing s with
  | zero => exact .inl ⟨waits, rfl⟩
  | succ n ih =>
    cases granted : s.grant with
    | none => exact absurd waits ((State.grant_none granted).2 words true)
    | some t =>
      have next : State.arbitrate (n + 1) s = State.arbitrate n t := by rw [State.arbitrate, granted]
      rw [next]
      obtain ⟨i, -, rfl⟩ | ⟨no_report, words', restart, waits', rfl⟩ := State.grant_cases granted
      · obtain ⟨still, full⟩ | placed := ih (s := s.placeReport i) waits
        · have longer := (State.grant_frame granted).2.1
          exact .inl ⟨still, by omega⟩
        · exact .inr placed
      · cases waits.symm.trans waits'
        rw [State.arbitrate_of_grant_none (State.placeReply_restart_grant no_report words)]
        exact .inr ⟨rfl, List.getLast?_concat⟩

end Sys2Proof.Machine

open Sys2Proof Sys2Proof.Machine

/-- Settles O59: an evaluation is `State.evaluate0`, then HALT entry where it moved RUN to HALT, which touches
SWING_BRAKE_SLIP alone (`State.haltEntry_others`). -/
theorem evaluationsAreTaken : Obligations.EvaluationsAreTaken := by
  intro i present s t
  refine ⟨State.evaluate_alarmFrame s i present, State.evaluate_walk s i present, State.evaluate_taken' s i present,
    fun brake => ?owed, State.evaluate_listMoves, fun ne free => ?again⟩
  case owed =>
    have owes := State.evaluate0_owes s i present
    obtain ⟨-, e⟩ | ⟨run, halts, e⟩ := State.evaluate_cases s i present
    · show Owes s (s.evaluate i present) i
      rw [e]
      exact owes
    · have ne : i ≠ idBrakeSlip := fun slip => by
        have moved : (s.evaluate i present).mode = s.mode := brake slip
        rw [e, State.haltEntry_mode halts, run] at moved
        cases moved
      have others := State.haltEntry_others (s.evaluate0 i present)
      show Owes s (s.evaluate i present) i
      rw [e, Owes, others.status i ne, others.entry i ne]
      exact owes
  case again =>
    intro u
    obtain ⟨-, count, -, -, outcome⟩ := (State.evaluate_taken s ne false : TakenAbsent _ _ _).free free
    have first := s.evaluate_evaluated i false
    obtain ⟨condition, counted, -, -, stands⟩ :=
      (State.evaluate_taken (s.evaluate i false) ne true : TakenPresent _ _ _)
    have one : countAfter (s.evaluate i false) i = if (s.definition i).enabled then 1 else 0 := by
      rw [countAfter, first.definition, count]
      rfl
    refine ⟨condition, counted.trans one, fun many unlisted => ?_⟩
    have few : ¬raisesNow (s.evaluate i false) i := by
      rintro ⟨qualifies, -⟩
      rw [one, first.definition] at qualifies
      cases enabled : (s.definition i).enabled <;> rw [enabled] at qualifies <;> simp at qualifies <;> omega
    have still : (s.evaluate i false).entry? i = none := by
      rw [absentOutcome, unlisted] at outcome
      exact congrArg Prod.fst outcome
    exact (stands few).1.trans still

/-- Settles O56: HALT entry is `WalkSeq.haltEntry` case by case (`State.enterHalt_entersHalt`); the RESTART reply waits
behind the reports or stands at the tail (`State.arbitrate_restart`). -/
theorem haltAndRestartRequests : Obligations.HaltAndRestartRequests := by
  refine ⟨fun s serving => ⟨fun stays => ?still, fun run agrees => ?halts⟩,
    fun s serving => ⟨fun run => ?wrongMode, fun mode busy => ?blocked, fun mode idle => ?accepted⟩⟩
  case still =>
    have same : s.tookRequest.enterHalt = s.tookRequest := State.enterHalt_of_not_run stays
    refine answersOnly_of_exec ((exec_halt serving).trans ?_)
    rw [same]
  case halts =>
    intro w
    obtain ⟨only, mode, list, entries, brake⟩ : EntersHalt s.tookRequest s.tookRequest.enterHalt :=
      State.enterHalt_entersHalt run
    have r := s.tookRequest.enterHalt.replies [7, 0]
    have walk := r.walk.trans (congrArg State.walk only)
    have quiet := r.alarms.untaken r.mode
    have session : s.tookRequest.enterHalt.walk = _ := r.walk.symm
    rw [session] at list brake
    have replied := r.replied
    rw [Replied, show s.tookRequest.enterHalt.stationByte = s.stationByte by rw [only]; rfl] at replied
    refine ⟨_, exec_halt serving, replied, r.mode.trans mode, ?_, fun stays => r.list.trans (list stays),
      fun i ne => (quiet i).2.trans (entries i ne), fun on off => ?_,
      fun state => walk.trans (WalkSeq.haltEntry_idle state _),
      fun state => walk.trans (WalkSeq.haltEntry_prep state _),
      fun state => walk.trans (WalkSeq.haltEntry_setdown state _), fun c state current =>
        ⟨fun phase => walk.trans (WalkSeq.haltEntry_step_ends state current phase _),
          fun phase => walk.trans (WalkSeq.haltEntry_step_setsDown state current phase _)⟩⟩
    · rw [r.own s, only]
      rfl
    · have taken : Taken s.tookRequest _ idBrakeSlip false := (brake on off).of_untaken (quiet idBrakeSlip) r.mode
      exact s.tookRequest_own.taken taken
  case wrongMode => exact answersOnly_of_exec (exec_restart serving (if_pos run))
  case blocked => exact answersOnly_of_exec (exec_restart serving ((if_neg mode).trans (if_pos busy)))
  case accepted =>
    have outcome : ownRestart [] s.tookRequest = (s.tookRequest, .replying [9, 0] true) :=
      (if_neg mode).trans (if_neg (not_not.mpr idle))
    have placed := State.settle_effect (s.tookRequest.busyWith (.replying [9, 0] true))
    have kept := State.settle_mode (s.tookRequest.busyWith (.replying [9, 0] true))
    refine ⟨_, exec_restart serving outcome, ?_, placed.alarms.of_alarm rfl rfl kept, kept, State.settle_walk _,
      State.settle_list _, ?_⟩
    · calc
        (s.tookRequest.busyWith (.replying [9, 0] true)).settle.withAlarmsOf s
          = ((s.tookRequest.busyWith (.replying [9, 0] true)).settle.withAlarmsOf
              (s.tookRequest.busyWith (.replying [9, 0] true))).withAlarmsOf s := rfl
        _ = s.tookRequest := by rw [placed.own]; rfl
    · have capacity : Config.txCapacityU = 8 := rfl
      have slots : ((s.tookRequest.busyWith (.replying [9, 0] true)).port .u).txQueue.length
          = s.links.u.txQueue.length := rfl
      have length : (s.tookRequest.busyWith (.replying [9, 0] true)).links.u.txQueue.length
          = s.links.u.txQueue.length := rfl
      obtain ⟨still, full⟩ | placed := State.arbitrate_restart
        (Config.txCapacityU - ((s.tookRequest.busyWith (.replying [9, 0] true)).port .u).txQueue.length)
        (s := s.tookRequest.busyWith (.replying [9, 0] true)) rfl
      · exact .inl ⟨still, (show 8 ≤ (State.arbitrate _ _).links.u.txQueue.length by omega)⟩
      · exact .inr placed

end

section
/-! PROOFS. The outcomes of the receivers (R5 to R9). -/

namespace Sys2Proof.Machine

/-! ### An event's own effect at a port -/

theorem State.setPort_setPort (s : State) (p : Port) (x y : LinkPort) : (s.setPort p x).setPort p y = s.setPort p y := by
  cases p <;> rfl

/-- What an event does to a port, the frames that wait upward apart, no evaluation sees. -/
theorem OwnEffect.setPort {s : State} {p : Port} {x : LinkPort} (queue : p = .u → x.txQueue = s.links.u.txQueue) :
    OwnEffect s (s.setPort p x) := by
  cases p with
  | d => exact ⟨rfl, rfl, rfl⟩
  | u =>
    have own : (s.setPort .u x).withAlarmsOf s = s.setPort .u { x with txQueue := s.links.u.txQueue } := rfl
    have same : ({ x with txQueue := s.links.u.txQueue } : LinkPort) = x := by rw [← queue rfl]
    exact ⟨by rw [own, same], rfl, rfl⟩

/-- Nothing is evaluated: the own effect alone. -/
theorem OwnEffect.settled {s v : State} (h : OwnEffect s v) : Effect [] s v.settle v :=
  h.effect (State.settle_effect v)

/-- One evaluation after the own effect. -/
theorem OwnEffect.evaluated {s v : State} (h : OwnEffect s v) (i : AlarmId) (b : Bool) :
    Effect [i] s (v.evaluate i b) v :=
  h.effect (State.evaluate_effect v i b)

/-! ### An outcome counted and evaluated (R8) -/

/-- The port with an outcome counted and the receiver HUNTING. -/
def LinkPort.counted (x : LinkPort) (o : RxOutcome) : LinkPort :=
  { x with rx := .hunting, counters := countOutcome o x.counters, consecBad := consecAfter o x.consecBad }

/-- The state after an outcome is counted and the frame-error condition evaluated, before a GOOD frame is queued. -/
def State.outcomeEvaluated (s : State) (p : Port) (o : RxOutcome) : State :=
  (s.setPort p ((s.port p).counted o)).evaluate (idFrameErrors p)
    (decide (s.frameErrorThreshold ≤ (consecAfter o (s.port p).consecBad).toNat))

theorem State.endFrame_bad {s : State} (working : s.phase = .working) (p : Port) {o : RxOutcome} (bad : ∀ f, o ≠ .good f) :
    s.endFrame p o = (s.outcomeEvaluated p o).settle := by
  rw [State.endFrame, if_pos working]
  cases o with
  | good f => exact absurd rfl (bad f)
  | _ => cases p <;> rfl

theorem State.endFrame_good {s : State} (working : s.phase = .working) (p : Port) (f : Frame) :
    s.endFrame p (.good f) = ((s.outcomeEvaluated p (.good f)).enqueueRx p f).settle := by
  rw [State.endFrame, if_pos working]
  cases p <;> rfl

theorem State.counted_own (s : State) (p : Port) (o : RxOutcome) :
    OwnEffect s (s.setPort p ((s.port p).counted o)) :=
  .setPort fun h => by subst h; rfl

theorem State.outcomeEvaluated_effect (s : State) (p : Port) (o : RxOutcome) :
    Effect [idFrameErrors p] s (s.outcomeEvaluated p o) (s.setPort p ((s.port p).counted o)) :=
  (s.counted_own p o).evaluated _ _

theorem State.outcomeEvaluated_taken (s : State) (p : Port) (o : RxOutcome) :
    Taken s (s.outcomeEvaluated p o) (idFrameErrors p)
      (decide (s.frameErrorThreshold ≤ (consecAfter o (s.port p).consecBad).toNat)) := by
  refine (s.counted_own p o).taken (State.evaluate_taken _ ?_ _)
  cases p <;> decide

/-- A frame that ends badly (R7, R8). -/
theorem countsBad {c : Instr} {p : Port} {o : RxOutcome} {s : State} {k : Counters} (working : s.working = true)
    (bad : ∀ f, o ≠ .good f) (counters : countOutcome o (s.port p).counters = k)
    (consec : consecAfter o (s.port p).consecBad = bump (s.port p).consecBad) (ends : exec c s = .next (s.endFrame p o)) :
    CountsBad c p k s := by
  subst counters
  have effect := s.outcomeEvaluated_effect p o
  have taken := s.outcomeEvaluated_taken p o
  rw [State.endFrame_bad (s.working_iff.mp working).1 p bad] at ends
  rw [LinkPort.counted, consec] at effect
  rw [consec] at taken
  exact ⟨_, ends, effect.settle, taken.settle⟩

/-- The frame-error threshold is never 0, so a GOOD frame ends the condition (R8). -/
theorem State.frameErrorThreshold_pos (s : State) : 1 ≤ s.frameErrorThreshold := by
  rw [State.frameErrorThreshold, State.cfg]
  split
  · exact (Field.read_mem cfgFrameErrorThreshold _ (by decide)).1
  · decide

/-- A GOOD frame offered to the receive queue (R9). -/
theorem State.enqueueRx_eq (s : State) (p : Port) (f : Frame) :
    s.enqueueRx p f = s.setPort p { s.port p with
      rxQueue := if (s.port p).rxQueue.length < rxCapacity p then (s.port p).rxQueue ++ [f] else (s.port p).rxQueue
      counters := { (s.port p).counters with
        overrun := if (s.port p).rxQueue.length < rxCapacity p then (s.port p).counters.overrun
          else bump (s.port p).counters.overrun } } := by
  rw [State.enqueueRx]
  split <;> cases p <;> rfl

/-- The port after a GOOD frame: counted, and offered to the receive queue (R8, R9). -/
def LinkPort.takenGood (x : LinkPort) (p : Port) (f : Frame) : LinkPort :=
  { x with
    rx := .hunting
    consecBad := 0
    rxQueue := if x.rxQueue.length < rxCapacity p then x.rxQueue ++ [f] else x.rxQueue
    counters := { x.counters with
      good := bump x.counters.good
      overrun := if x.rxQueue.length < rxCapacity p then x.counters.overrun else bump x.counters.overrun } }

theorem State.outcomeEvaluated_only (s : State) (p : Port) (o : RxOutcome) :
    s.outcomeEvaluated p o = ((s.setPort p ((s.port p).counted o)).setAlarm (s.outcomeEvaluated p o).alarm).setWalk
      (s.outcomeEvaluated p o).walk :=
  State.evaluate_frame _ _ _

theorem State.enqueueRx_evaluated (s : State) (p : Port) (f : Frame) :
    (s.outcomeEvaluated p (.good f)).enqueueRx p f
      = (s.outcomeEvaluated p (.good f)).setPort p ((s.port p).takenGood p f) := by
  rw [State.enqueueRx_eq, s.outcomeEvaluated_only]
  cases p <;> rfl

/-- The evaluation between the count and the queue is no part of the own effect. -/
theorem State.queued_own (s : State) (p : Port) (f : Frame) :
    ((s.outcomeEvaluated p (.good f)).setPort p ((s.port p).takenGood p f)).withAlarmsOf s
      = s.setPort p ((s.port p).takenGood p f) := by
  rw [s.outcomeEvaluated_only]
  cases p <;> rfl

/-! ### Where the receiver stands (R4, R5) -/

theorem State.receiving_of_working {s : State} (working : s.working = true) : s.receiving = true := by
  obtain ⟨phase, clk⟩ := s.working_iff.mp working
  exact State.receiving_of clk (.inl phase)

theorem frameComplete_of_completes {s : State} {p : Port} {bytes : List Byte} {f : Frame} (h : Completes s p bytes f) :
    frameComplete p bytes s = s.endFrame p (outcomeOf p f) := by
  obtain ⟨working, short, got, rx, all⟩ := h
  have taken : got ++ bytes = f.bytes.drop 1 := by rw [← all]; rfl
  simp only [frameComplete, rx, taken, State.receiving_of_working working, Frame.endsComplete_bytes short,
    Frame.frameOfBytes_bytes short, Bool.and_self, if_true]

theorem badLength_of_inFrame {s : State} {p : Port} {bytes got : List Byte} (working : s.working = true)
    (rx : (s.port p).rx = .inFrame got) (ends : endsBadLength (got ++ bytes) = true) :
    badLength p bytes s = s.endFrame p .badLength := by
  simp only [badLength, rx, State.receiving_of_working working, ends, Bool.and_self, if_true]

theorem truncated_of_inFrame {s : State} {p : Port} {bytes got : List Byte} {ns : Nat} (working : s.working = true)
    (rx : (s.port p).rx = .inFrame got) (still : stillOpen (got ++ bytes) = true) :
    truncated p bytes ns s = if 25000 < ns then s.endFrame p .truncated else s := by
  simp only [truncated, rx, State.receiving_of_working working, still, Bool.and_self, Bool.true_and,
    decide_eq_true_eq]
  rfl

end Sys2Proof.Machine

open Sys2Proof Sys2Proof.Machine

/-- Settles O15: an outcome is counted, the frame-error condition evaluated (`State.outcomeEvaluated`), and a GOOD frame
offered to the receive queue after it. -/
theorem frameOutcomes : Obligations.FrameOutcomes := by
  refine ⟨fun p bytes f s completes ok formed => ?good, fun p bytes s => ⟨fun got l working rx len at2 long => ?badLength,
    fun f completes bad => ?badCheck, fun f completes ok port kind size => ?misformed,
    fun got ns working rx still => ⟨fun silence => ?truncated, fun silence => ?silent⟩⟩⟩
  case good =>
    have phase := (s.working_iff.mp completes.1).1
    have outcome : outcomeOf p f = .good f := by
      have fits : ¬(p = .u ∧ f.kind = kindRef ∧ f.words.length ≠ 6) := formed
      rw [outcomeOf, if_neg (by simp [ok]), if_neg fits]
    have ends : exec (.frameComplete p bytes) s
        = .next ((s.outcomeEvaluated p (.good f)).enqueueRx p f).settle := by
      rw [← State.endFrame_good phase, ← outcome]
      exact congrArg _ (frameComplete_of_completes completes)
    have effect := s.outcomeEvaluated_effect p (.good f)
    have taken := s.outcomeEvaluated_taken p (.good f)
    have absent : decide (s.frameErrorThreshold ≤ (consecAfter (.good f) (s.port p).consecBad).toNat) = false := by
      have pos := s.frameErrorThreshold_pos
      exact decide_eq_false fun le => absurd (pos.trans le) (show ¬1 ≤ 0 by decide)
    rw [absent] at taken
    rw [State.enqueueRx_evaluated] at ends
    refine ⟨_, ends, ?_, (taken.then_own (by cases p <;> rfl)).settle⟩
    have queued := effect.then_own (t' := (s.outcomeEvaluated p (.good f)).setPort p ((s.port p).takenGood p f))
      (by cases p <;> rfl) (by cases p <;> rfl) (by cases p <;> rfl) ?_
    · rw [State.queued_own] at queued
      exact queued.settle
    · rw [s.outcomeEvaluated_only]
      cases p <;> exact List.prefix_rfl
  case badLength =>
    have ends : endsBadLength (got ++ bytes) = true := by
      have length : lengthByte (got ++ bytes) = some l.toNat := congrArg (Option.map BitVec.toNat) at2
      have exceeds : (fun n => decide (Config.maxLength < n)) l.toNat = true := decide_eq_true long
      rw [endsBadLength, len, length]
      exact exceeds
    exact countsBad working (by simp) rfl rfl (congrArg _ (badLength_of_inFrame working rx ends))
  case badCheck =>
    have outcome : outcomeOf p f = .badCheck := by simp [outcomeOf, bad]
    refine countsBad completes.1 (o := .badCheck) (by simp) rfl rfl (congrArg Host.Outcome.next ?_)
    rw [← outcome]
    exact frameComplete_of_completes completes
  case misformed =>
    have outcome : outcomeOf p f = .misformed := by
      have fits : p = .u ∧ f.kind = kindRef ∧ f.words.length ≠ 6 := ⟨port, kind, size⟩
      rw [outcomeOf, if_neg (by simp [ok]), if_pos fits]
    refine countsBad completes.1 (o := .misformed) (by simp) rfl rfl (congrArg Host.Outcome.next ?_)
    rw [← outcome]
    exact frameComplete_of_completes completes
  case truncated =>
    have ends := (truncated_of_inFrame working rx (bytes := bytes) (ns := ns)
      ((stillOpen_iff _).mpr still)).trans (if_pos silence)
    exact countsBad working (by simp) rfl rfl (congrArg _ ends)
  case silent =>
    exact congrArg _ ((truncated_of_inFrame working rx ((stillOpen_iff _).mpr still)).trans (if_neg (not_lt.mpr silence)))

end

section
/-! PROOFS. The Frame Router and the transmitters: what a frame does on its way (R10 to R16). -/

namespace Sys2Proof.Machine

/-! ### What leads to an event's evaluations -/

/-- An evaluation finds in `v` what it finds in `s`; more may stand behind the frames that wait upward. -/
structure Reads (s v : State) : Prop where
  alarm      : v.alarm = s.alarm
  now        : v.now = s.now
  definition : ∀ i, v.definition i = s.definition i
  sent       : s.links.u.txQueue <+: v.links.u.txQueue

namespace Reads

variable {s v t : State} (h : Reads s v)
include h

theorem mode : v.mode = s.mode := congrArg AlarmUnit.mode h.alarm
theorem status (i : AlarmId) : v.status i = s.status i := congrArg (·.status[i]) h.alarm
theorem entry? (i : AlarmId) : v.entry? i = s.entry? i :=
  congrArg (·.list.find? fun e => decide (e.id = i)) h.alarm

theorem untaken (i : AlarmId) : Untaken s v i := .of_alarm h.alarm i

theorem taken {i : AlarmId} {b : Bool} (k : Taken v t i b) : Taken s t i b :=
  SameReading.taken ⟨h.untaken i, h.now, h.definition i⟩ k

theorem alarmFrame {ids : List AlarmId} (k : AlarmFrame ids v t) : AlarmFrame ids s t := by
  obtain ⟨status, report, entry, owed, cause, mode⟩ := k
  simp only [untouchedId, h.status, h.entry?, h.mode, h.alarm] at status report entry owed cause mode
  refine ⟨status, report, entry, fun i pending => (owed i pending).imp_right ?_, cause, ?_⟩
  · rintro ⟨x, hx, alm⟩
    exact ⟨x, List.drop_subset_drop_left _ h.sent.length_le hx, alm⟩
  · refine mode.imp_right fun ⟨run, halt, i, hi, before, raised, joined⟩ => ⟨run, halt, i, hi, ?_, ?_, ?_⟩
    · rwa [h.entry?] at before
    · rwa [h.status, h.now] at raised
    · rwa [h.definition] at joined

end Reads

/-- `v` is `s` with own effects that no evaluation and no HALT entry sees. -/
structure Leads (s v : State) : Prop extends Reads s v where
  walk : v.walk = s.walk
  unit : v.mgmt.unit = s.mgmt.unit

namespace Leads

variable {s v t : State} (h : Leads s v)
include h

theorem effect {ids : List AlarmId} {u : State} (k : Effect ids v t u) : Effect ids s t (t.withAlarmsOf s) where
  own := rfl
  alarms := h.alarmFrame k.alarms
  walk := by
    have walk := k.walk
    rwa [WalkFollows, h.mode, h.walk, h.now] at walk
  unit := by
    have unit := k.unit
    rwa [UnitFollows, h.unit] at unit
  sent := h.sent.trans k.sent

end Leads

theorem Leads.refl (s : State) : Leads s s := ⟨⟨rfl, rfl, fun _ => rfl, List.prefix_rfl⟩, rfl, rfl⟩

theorem OwnEffect.leads {s v : State} (h : OwnEffect s v) : Leads s v :=
  ⟨⟨h.alarm, h.now, h.definition, by rw [h.txQueue]⟩, h.walk, h.unit⟩

/-- Whatever is done to the links, but that nothing that waits upward is lost. -/
theorem Leads.setLinks {s : State} {l : Links} (sent : s.links.u.txQueue <+: l.u.txQueue) : Leads s (s.setLinks l) :=
  ⟨⟨rfl, rfl, fun _ => rfl, sent⟩, rfl, rfl⟩

/-! ### The end of an event -/

theorem State.settle_withAlarmsOf (v s : State) : v.settle.withAlarmsOf s = v.withAlarmsOf s := by
  calc v.settle.withAlarmsOf s = (v.settle.withAlarmsOf v).withAlarmsOf s := rfl
    _ = v.withAlarmsOf s := by rw [(State.settle_effect v).own]

theorem State.settle_uCounters (s : State) : s.settle.links.u.counters = s.links.u.counters := by
  rw [(State.settle_frame s).1]; rfl

theorem State.settle_waitingRef (s : State) : s.settle.links.waitingRef = s.links.waitingRef := by
  rw [(State.settle_frame s).1]; rfl

/-- A full U-port transmit queue stays as it is. -/
theorem State.settle_full {s : State} (full : 8 ≤ s.links.u.txQueue.length) :
    s.settle.links.u.txQueue = s.links.u.txQueue := by
  have capacity : Config.txCapacityU = 8 := rfl
  have slots : (s.port .u).txQueue.length = s.links.u.txQueue.length := rfl
  obtain ⟨-, sent, bound⟩ := State.arbitrate_frame (Config.txCapacityU - (s.port .u).txQueue.length) s
  exact (sent.eq_of_length_le (by omega)).symm

/-! ### A frame offered upward (R16) -/

/-- The state with the frame at the tail of the U-port transmit queue, or counted as dropped. -/
theorem State.offerForward_up (s : State) (f : Frame) :
    s.offerForward .u f = s.setPort .u { s.links.u with
      txQueue := if s.links.u.txQueue.length < 8 then s.links.u.txQueue ++ [⟨f, .forwarded⟩] else s.links.u.txQueue
      counters := { s.links.u.counters with
        txDrops := if s.links.u.txQueue.length < 8 then s.links.u.counters.txDrops
          else bump s.links.u.counters.txDrops } } := by
  have capacity : txCapacity .u = 8 := rfl
  rw [State.offerForward, capacity]
  by_cases room : s.links.u.txQueue.length < 8
  · rw [if_pos room, if_pos room, if_pos (show (s.port .u).txQueue.length < 8 from room)]
    rfl
  · rw [if_neg room, if_neg room, if_neg (show ¬(s.port .u).txQueue.length < 8 from room)]
    rfl

theorem State.offerForward_withAlarmsOf (v s : State) (f : Frame) :
    (v.offerForward .u f).withAlarmsOf s = (v.withAlarmsOf s).withDropsOf (v.offerForward .u f) := by
  rw [State.offerForward_up]
  rfl

theorem State.offerForward_alarm (s : State) (f : Frame) : (s.offerForward .u f).alarm = s.alarm := by
  rw [State.offerForward_up]; rfl

theorem State.offerForward_image (s : State) (f : Frame) : (s.offerForward .u f).image = s.image := by
  rw [State.offerForward_up]; rfl

theorem State.offerForward_walk (s : State) (f : Frame) : (s.offerForward .u f).walk = s.walk := by
  rw [State.offerForward_up]; rfl

theorem State.offerForward_unit (s : State) (f : Frame) : (s.offerForward .u f).mgmt.unit = s.mgmt.unit := by
  rw [State.offerForward_up]; rfl

theorem State.offerForward_sent (s : State) (f : Frame) :
    s.links.u.txQueue <+: (s.offerForward .u f).links.u.txQueue := by
  rw [State.offerForward_up]
  show s.links.u.txQueue <+: if s.links.u.txQueue.length < 8 then _ else _
  split
  · exact List.prefix_append _ _
  · exact List.prefix_rfl

theorem State.offerForward_setLinks (s : State) (f : Frame) :
    s.offerForward .u f = s.setLinks (s.offerForward .u f).links := by
  rw [State.offerForward_up]; rfl

/-- An event followed by an offer upward, and what it did before. -/
theorem Effect.then_offer {ids : List AlarmId} {s t u : State} (h : Effect ids s t u) (f : Frame) :
    Effect ids s (t.offerForward .u f) ((t.offerForward .u f).withAlarmsOf s) :=
  h.then_own (t.offerForward_alarm f) (t.offerForward_walk f) (t.offerForward_unit f) (t.offerForward_sent f)

/-- A frame offered upward stays in front of what the arbiter places at the event's end, or is dropped (R16). -/
theorem State.offerForward_settle {s x : State} {f : Frame} (links : x.links = (s.offerForward .u f).links) :
    (s.links.u.txQueue.length < 8 →
      s.links.u.txQueue ++ [⟨f, .forwarded⟩] <+: x.settle.links.u.txQueue
        ∧ x.settle.links.u.counters.txDrops = s.links.u.counters.txDrops)
    ∧ (8 ≤ s.links.u.txQueue.length →
      x.settle.links.u.txQueue = s.links.u.txQueue
        ∧ x.settle.links.u.counters.txDrops = bump s.links.u.counters.txDrops) := by
  rw [State.offerForward_up] at links
  refine ⟨fun room => ?_, fun full => ?_⟩
  · have queue : x.links.u.txQueue = s.links.u.txQueue ++ [⟨f, .forwarded⟩] := by
      rw [links]; exact if_pos room
    have drops : x.links.u.counters.txDrops = s.links.u.counters.txDrops := by
      rw [links]; exact if_pos room
    rw [State.settle_uCounters, drops, ← queue]
    exact ⟨(State.settle_effect _).sent, rfl⟩
  · have queue : x.links.u.txQueue = s.links.u.txQueue := by
      rw [links]; exact if_neg (not_lt.mpr full)
    have drops : x.links.u.counters.txDrops = bump s.links.u.counters.txDrops := by
      rw [links]; exact if_neg (not_lt.mpr full)
    rw [State.settle_uCounters, drops, State.settle_full (by rw [queue]; exact full), queue]
    exact ⟨rfl, rfl⟩

/-- Offered behind what waited, the frame has the last slot that is left, or is dropped (R16). -/
theorem State.settle_offerForward (s : State) (f : Frame) :
    ((s.settle.offerForward .u f).settle.links.u.txQueue.getLast? = some ⟨f, .forwarded⟩
        ∧ (s.settle.offerForward .u f).settle.links.u.counters.txDrops = s.links.u.counters.txDrops)
      ∨ (8 ≤ (s.settle.offerForward .u f).settle.links.u.txQueue.length
        ∧ s.links.u.txQueue <+: (s.settle.offerForward .u f).settle.links.u.txQueue
        ∧ (s.settle.offerForward .u f).settle.links.u.counters.txDrops = bump s.links.u.counters.txDrops) := by
  obtain ⟨-, full⟩ := State.offerForward_settle (s := s.settle) (f := f) rfl
  by_cases room : s.settle.links.u.txQueue.length < 8
  · left
    have queue : (s.settle.offerForward .u f).links.u.txQueue = s.settle.links.u.txQueue ++ [⟨f, .forwarded⟩] := by
      rw [State.offerForward_up]; exact if_pos room
    have drops : (s.settle.offerForward .u f).links.u.counters.txDrops = s.settle.links.u.counters.txDrops := by
      rw [State.offerForward_up]; exact if_pos room
    have short : s.links.u.txQueue.length ≤ 8 :=
      ((State.settle_effect s).sent.length_le).trans room.le
    obtain filled | ⟨reports, replies⟩ := State.settle_done s short
    · omega
    · have alarm := s.settle.offerForward_alarm f
      have idle : (s.settle.offerForward .u f).grant = none := by
        have no_report : (s.settle.offerForward .u f).firstReport = none := by
          refine List.find?_eq_none.mpr fun i _ => ?_
          have same : (s.settle.offerForward .u f).status i = s.settle.status i := congrArg (·.status[i]) alarm
          rw [same, reports i]
          decide
        rw [State.grant, no_report]
        dsimp only
        rw [State.offerForward_unit]
        cases waits : s.settle.mgmt.unit with
        | replying words restart => exact absurd waits (replies words restart)
        | _ => rfl
      have stays : (s.settle.offerForward .u f).settle.links.u.txQueue = (s.settle.offerForward .u f).links.u.txQueue :=
        congrArg (·.links.u.txQueue) (State.arbitrate_of_grant_none idle _)
      rw [stays, State.settle_uCounters, queue, drops, State.settle_uCounters]
      exact ⟨List.getLast?_concat, rfl⟩
  · right
    obtain ⟨queue, drops⟩ := full (not_lt.mp room)
    rw [queue, drops, State.settle_uCounters]
    exact ⟨not_lt.mp room, (State.settle_effect s).sent, rfl⟩

/-! ### A sample taken changes the image, the Alarm Unit and the Walk Sequencer -/

/-- `t` is `s` but for the image, the Alarm Unit and the Walk Sequencer. -/
abbrev SampleOnly (s t : State) : Prop := t = ((s.setImage t.image).setAlarm t.alarm).setWalk t.walk

theorem SampleOnly.trans {s t u : State} (h : SampleOnly s t) (k : SampleOnly t u) : SampleOnly s u := by
  rw [SampleOnly, k, h]; rfl

theorem SampleOnly.evaluated {ids : List AlarmId} {s t : State} (h : Evaluated ids s t) : SampleOnly s t := by
  rw [SampleOnly, h.only]; rfl

theorem State.withWalk_only (s : State) (w : WalkSeq) : SampleOnly s (s.withWalk w) := by
  rw [SampleOnly, State.withWalk_frame]; rfl

theorem State.evaluate_only (s : State) (i : AlarmId) (b : Bool) : SampleOnly s (s.evaluate i b) :=
  .evaluated (s.evaluate_evaluated i b)

theorem State.walkSample_only (s : State) : SampleOnly s s.walkSample := by
  simp only [State.walkSample]
  split
  · rfl
  · split
    · split
      · rw [SampleOnly, State.walkAxisLost_frame]; rfl
      · split
        · exact State.withWalk_only _ _
        · split
          · exact (State.withWalk_only _ _).trans (State.evaluate_only _ _ _)
          · exact State.withWalk_only _ _
    · rfl

theorem State.swingSample_only (s : State) : SampleOnly s s.swingSample := by
  simp only [State.swingSample]
  split
  · rfl
  · split
    · exact State.evaluate_only _ _ _
    · rfl

theorem State.goodSample_only (s : State) (a : Axis) (x : Sample) (order : List Nat) :
    SampleOnly s (s.goodSample a x order) := by
  have axis (r : AxisRecord) : SampleOnly s (s.setAxis a r) := rfl
  have evaluated (v : State) (evs : List (AlarmId × Bool)) : SampleOnly v (v.evaluateAll evs) := by
    rw [SampleOnly, State.evaluateAll_frame]; rfl
  have both := (axis _).trans (evaluated (s.setAxis a ((s.axis a).accept x s.now
    (s.feedbackDue a || s.feedbackOvertaken a))) (arrange order [(idStale a, false), (idDriveFault a, x.fault)]))
  cases a with
  | hoist => exact both
  | drag => exact both
  | swing => exact both.trans (State.swingSample_only _)
  | walk => exact both.trans (State.walkSample_only _)

theorem State.takeSample_only (s : State) (f : Frame) (order : List Nat) : SampleOnly s (s.takeSample f order) := by
  simp only [State.takeSample]
  split
  · rfl
  · split
    · exact State.goodSample_only _ _ _ _
    · rfl

/-- From `s` to `t` an FBK is routed: its sample is taken, in `u`, from the state with the frame gone from its queue and, if
it came first, offered upward (R11, R16). -/
structure SampleRouted (f : Frame) (rest : List Frame) (order : List Nat) (s v u t : State) : Prop where
  links : v = s.setLinks v.links
  leads : Leads s v
  takes : u = v.takeSample f order
  own   : t.withAlarmsOf s = ((s.tookD rest).setImage t.image).withDropsOf t
  image : t.image = u.image
  walk  : t.walk = u.walk
  mode  : t.mode = u.mode
  frame : AlarmFrame [] u t
  sent  : u.links.u.txQueue <+: t.links.u.txQueue
  after : ∀ ids w, Effect ids s u w → Effect ids s t (t.withAlarmsOf s)

theorem routeDFrame_takes {s : State} {f : Frame} {rest : List Frame} (working : s.working = true)
    (queue : s.links.d.rxQueue = f :: rest) (upFirst : Bool) (order : List Nat) :
    routeDFrame upFirst order s = (s.tookD rest).routeDown f upFirst order := by
  have front : (s.port .d).rxQueue = f :: rest := queue
  rw [routeDFrame, State.atWork_of_working working, front]
  rfl

/-- The end of an event keeps what was said of it. -/
theorem Effect.settled {ids : List AlarmId} {s t u : State} (h : Effect ids s t u) :
    Effect ids s t.settle (t.settle.withAlarmsOf s) := by
  have settled := h.settle
  rwa [← settled.own] at settled

/-- The FBK offered upward before its sample is taken. -/
theorem sampleRouted_first {s v u : State} {f : Frame} {rest : List Frame} {order : List Nat}
    (offered : v = (s.tookD rest).offerForward .u f) (takes : u = v.takeSample f order) :
    SampleRouted f rest order s v u u.settle := by
  have only : SampleOnly v u := takes ▸ v.takeSample_only f order
  have links : v = s.setLinks v.links := by
    rw [offered, State.offerForward_setLinks]
    rfl
  exact {
    links := links
    leads := by
      rw [links]
      refine Leads.setLinks ?_
      rw [offered]
      exact (s.tookD rest).offerForward_sent f
    takes := takes
    own := by
      have drops : u.settle.links.u.counters = ((s.tookD rest).offerForward .u f).links.u.counters := by
        rw [State.settle_uCounters, only, offered]
        rfl
      calc u.settle.withAlarmsOf s = u.withAlarmsOf s := u.settle_withAlarmsOf s
        _ = (v.setImage u.image).withAlarmsOf s := by rw [only]; rfl
        _ = ((s.tookD rest).setImage u.settle.image).withDropsOf u.settle := by
          rw [State.withDropsOf, drops, State.settle_image, offered, State.offerForward_up]
          rfl
    image := u.settle_image
    walk := u.settle_walk
    mode := u.settle_mode
    frame := (State.settle_effect u).alarms
    sent := (State.settle_effect u).sent
    after := fun ids w h => h.settled }

/-- The sample taken, and the event's own frames placed, before the FBK is offered upward. -/
theorem sampleRouted_last {s u : State} {f : Frame} {rest : List Frame} {order : List Nat}
    (takes : u = (s.tookD rest).takeSample f order) :
    SampleRouted f rest order s (s.tookD rest) u (u.settle.offerForward .u f).settle := by
  have only : SampleOnly (s.tookD rest) u := takes ▸ (s.tookD rest).takeSample_only f order
  have image : (u.settle.offerForward .u f).settle.image = u.image := by
    rw [State.settle_image, State.offerForward_image, State.settle_image]
  have offered := u.settle.offerForward_alarm f
  have sent := u.settle.offerForward_sent f
  exact {
    links := rfl
    leads := Leads.setLinks List.prefix_rfl
    takes := takes
    own := by
      have drops := State.settle_uCounters (u.settle.offerForward .u f)
      have own : u.withAlarmsOf s = (s.tookD rest).setImage u.image := by rw [only]; rfl
      rw [State.settle_withAlarmsOf, State.offerForward_withAlarmsOf, State.settle_withAlarmsOf, image, own,
        State.withDropsOf, State.withDropsOf, drops]
    image := image
    walk := by rw [State.settle_walk, State.offerForward_walk, State.settle_walk]
    mode := by
      rw [State.settle_mode]
      exact (congrArg AlarmUnit.mode offered).trans u.settle_mode
    frame := ((State.settle_effect u).alarms.then_same offered sent).then_quiet (State.settle_effect _).alarms
      (State.settle_mode _) ((State.settle_effect u).sent.trans sent) (State.settle_effect _).sent
    sent := ((State.settle_effect u).sent.trans sent).trans (State.settle_effect _).sent
    after := fun ids w h => (h.settle.then_offer f).settled }

theorem SampleRouted.quiet {f : Frame} {rest : List Frame} {order : List Nat} {s v u t : State}
    (h : SampleRouted f rest order s v u t) (i : AlarmId) : Untaken u t i := h.frame.untaken h.mode i

theorem routeDFrame_fbk {s : State} {f : Frame} {rest : List Frame} (working : s.working = true)
    (queue : s.links.d.rxQueue = f :: rest) (kind : f.kind = kindFbk) (upFirst : Bool) (order : List Nat) :
    ∃ v u, SampleRouted f rest order s v u (routeDFrame upFirst order s) := by
  rw [routeDFrame_takes working queue, State.routeDown, if_pos kind]
  cases upFirst with
  | true => exact ⟨_, _, sampleRouted_first rfl rfl⟩
  | false => exact ⟨_, _, sampleRouted_last rfl⟩

end Sys2Proof.Machine
end

section
/-! PROOFS. The Frame Router's classification, the transmitters, and feedback samples that reach no sequencer (R10 to R16,
R27 to R30). -/

namespace Sys2Proof.Machine

/-! ### The U-port side (R10) -/

theorem routeUFrame_request {s : State} {f : Frame} {rest : List Frame} (working : s.working = true)
    (none : s.links.waitingRef = none) (queue : s.links.u.rxQueue = f :: rest) (kind : f.kind = kindMreq) :
    routeUFrame s = (if f.station.toNat = s.station then (s.tookU rest).offerRequest f
      else (s.tookU rest).offerForward .d f).settle := by
  have not_ref : ¬f.kind = kindRef := by rw [kind]; decide
  rw [routeUFrame_takes working none queue, State.routeUp, if_neg not_ref, if_pos kind]
  rfl

theorem routeUFrame_misdirected {s : State} {f : Frame} {rest : List Frame} (working : s.working = true)
    (none : s.links.waitingRef = none) (queue : s.links.u.rxQueue = f :: rest) (not_request : f.kind ≠ kindMreq)
    (not_ref : ¬(f.kind = kindRef ∧ f.station = 0)) : routeUFrame s = ((s.tookU rest).misdirected .u).settle := by
  rw [routeUFrame_takes working none queue, State.routeUp]
  by_cases ref : f.kind = kindRef
  · rw [if_pos ref, if_neg fun zero => not_ref ⟨ref, zero⟩]
  · rw [if_neg ref, if_neg not_request]

theorem State.offerRequest_eq (s : State) (f : Frame) :
    s.offerRequest f = s.setMgmt { s.mgmt with
      queue := if s.mgmt.queue.length < 4 then s.mgmt.queue ++ [f] else s.mgmt.queue
      discards := if s.mgmt.queue.length < 4 then s.mgmt.discards else bump s.mgmt.discards } := by
  have capacity : Config.requestCapacity = 4 := rfl
  rw [State.offerRequest, capacity]
  split <;> rfl

theorem State.offerForward_down (s : State) (f : Frame) :
    s.offerForward .d f = s.setPort .d { s.links.d with
      txQueue := if s.links.d.txQueue.length < 4 then s.links.d.txQueue ++ [⟨f, .forwarded⟩] else s.links.d.txQueue
      counters := { s.links.d.counters with
        txDrops := if s.links.d.txQueue.length < 4 then s.links.d.counters.txDrops
          else bump s.links.d.counters.txDrops } } := by
  have capacity : txCapacity .d = 4 := rfl
  rw [State.offerForward, capacity]
  by_cases room : s.links.d.txQueue.length < 4
  · rw [if_pos room, if_pos room, if_pos (show (s.port .d).txQueue.length < 4 from room)]
    rfl
  · rw [if_neg room, if_neg room, if_neg (show ¬(s.port .d).txQueue.length < 4 from room)]
    rfl

/-! ### The D-port side (R11, R16) -/

theorem routeDFrame_reply {s : State} {f : Frame} {rest : List Frame} (working : s.working = true)
    (queue : s.links.d.rxQueue = f :: rest) (kind : f.kind = kindMrep) (upFirst : Bool) (order : List Nat) :
    routeDFrame upFirst order s = ((s.tookD rest).offerForward .u f).settle := by
  have not_fbk : ¬f.kind = kindFbk := by rw [kind]; decide
  rw [routeDFrame_takes working queue, State.routeDown, if_neg not_fbk, if_pos kind]

theorem State.takeSample_links (s : State) (f : Frame) (order : List Nat) : (s.takeSample f order).links = s.links := by
  rw [s.takeSample_only f order]; rfl

/-- A sample taken after the offer leaves what was offered. -/
theorem routeDFrame_offers_first {s : State} {f : Frame} {rest : List Frame} (working : s.working = true)
    (queue : s.links.d.rxQueue = f :: rest) (kind : f.kind = kindFbk) (order : List Nat) :
    routeDFrame true order s = (((s.tookD rest).offerForward .u f).takeSample f order).settle := by
  rw [routeDFrame_takes working queue, State.routeDown, if_pos kind, if_pos rfl]

theorem routeDFrame_offers_last {s : State} {f : Frame} {rest : List Frame} (working : s.working = true)
    (queue : s.links.d.rxQueue = f :: rest) (kind : f.kind = kindFbk) (order : List Nat) :
    routeDFrame false order s = ((((s.tookD rest).takeSample f order).settle).offerForward .u f).settle := by
  rw [routeDFrame_takes working queue, State.routeDown, if_pos kind, if_neg Bool.false_ne_true]

/-! ### The transmitters (R13) -/

theorem LinkPort.takeHead_cons {x : LinkPort} {f : TxFrame} {rest : List TxFrame} (idle : x.tx = none)
    (queue : x.txQueue = f :: rest) : x.takeHead = { x with tx := some ⟨f, false⟩, txQueue := rest } := by
  rw [LinkPort.takeHead, idle, queue]

theorem LinkPort.takeHead_nil {x : LinkPort} (queue : x.txQueue = []) : x.takeHead = x := by
  rw [LinkPort.takeHead, queue]
  cases x.tx <;> rfl

theorem transmitComplete_taken {s : State} {p : Port} {sent : Sending} (working : s.working = true)
    (sending : (s.port p).tx = some sent) (other : sent.item.origin ≠ .restartReply) :
    transmitComplete p s = (s.setPort p { s.port p with tx := none }.takeHead).settle := by
  simp only [transmitComplete, State.atWork_of_working working, sending, if_neg other]

/-! ### Samples (R27 to R30) -/

theorem State.feedbackDue_iff (s : State) (a : Axis) : s.feedbackDue a = true ↔ FeedbackDue s a := by
  rw [State.feedbackDue, FeedbackDue]
  cases (s.axis a).timer with
  | none => simp
  | some start => simp [State.due]

/-- The sample of an axis that passes its checks (R28). -/
theorem sampleOf_rope {a : Axis} {pos spd ten fl : Word} (rope : a = .hoist ∨ a = .drag)
    (passes : samplePasses a [pos, spd, ten, fl]) :
    sampleOf a [pos, spd, ten, fl] = some ⟨pos.toNat, spd.toInt, ten.toNat, fl.getLsbD 0, fl.getLsbD 1⟩ := by
  obtain rfl | rfl := rope
  all_goals
    obtain ⟨_, _, _, _, words, hp, lo, hi, ht⟩ := passes
    cases words
    exact if_pos ⟨hp, by omega, ht⟩

theorem sampleOf_swing {pos spd fl : Word} (passes : samplePasses .swing [pos, spd, fl]) :
    sampleOf .swing [pos, spd, fl] = some ⟨pos.toNat, spd.toInt, 0, fl.getLsbD 0, fl.getLsbD 1⟩ := by
  obtain ⟨_, _, _, words, hp, lo, hi⟩ := passes
  cases words
  exact if_pos ⟨hp, by omega⟩

theorem sampleOf_walk {pos fl : Word} (passes : samplePasses .walk [pos, fl]) :
    sampleOf .walk [pos, fl] = some ⟨pos.toNat, 0, 0, fl.getLsbD 0, fl.getLsbD 1⟩ := by
  obtain ⟨_, _, words, hp⟩ := passes
  cases words
  exact if_pos hp

theorem samplePasses_of_sampleOf {a : Axis} {ws : List Word} {x : Sample} (h : sampleOf a ws = some x) :
    samplePasses a ws := by
  cases a with
  | hoist =>
    simp only [sampleOf, ropeSample] at h
    split at h
    · rename_i pos spd ten fl
      split at h
      · rename_i passes
        exact ⟨pos, spd, ten, fl, rfl, passes.1, by omega, by omega, passes.2.2⟩
      · cases h
    · cases h
  | drag =>
    simp only [sampleOf, ropeSample] at h
    split at h
    · rename_i pos spd ten fl
      split at h
      · rename_i passes
        exact ⟨pos, spd, ten, fl, rfl, passes.1, by omega, by omega, passes.2.2⟩
      · cases h
    · cases h
  | swing =>
    simp only [sampleOf, swingSampleOf] at h
    split at h
    · rename_i pos spd fl
      split at h
      · rename_i passes
        exact ⟨pos, spd, fl, rfl, passes.1, by omega, by omega⟩
      · cases h
    · cases h
  | walk =>
    simp only [sampleOf, walkSampleOf] at h
    split at h
    · rename_i pos fl
      split at h
      · rename_i passes
        exact ⟨pos, fl, rfl, passes⟩
      · cases h
    · cases h

/-- The axis that owns the sample is found, and no other (R27). -/
theorem SampleArrives.axisOfStation {s : State} {a : Axis} {f : Frame} {rest : List Frame} (h : SampleArrives s a f rest) :
    s.axisOfStation f.station.toNat = some a := by
  obtain ⟨-, -, -, valid, mapped, own, others⟩ := h
  let p : Axis → Bool := fun b => decide ((s.axis b).state ≠ .unmapped) && decide ((s.axis b).station = f.station.toNat)
  have misses (b : Axis) (hb : b ≠ a) : ¬p b = true := by simp [p, others b hb]
  have hits : p a = true := by simp [p, mapped, own]
  rw [State.axisOfStation, if_pos valid]
  show [Axis.hoist, .drag, .swing, .walk].find? p = some a
  cases a with
  | hoist => exact List.find?_cons_of_pos hits
  | drag => rw [List.find?_cons_of_neg (misses .hoist (by decide)), List.find?_cons_of_pos hits]
  | swing =>
    rw [List.find?_cons_of_neg (misses .hoist (by decide)), List.find?_cons_of_neg (misses .drag (by decide)),
      List.find?_cons_of_pos hits]
  | walk =>
    rw [List.find?_cons_of_neg (misses .hoist (by decide)), List.find?_cons_of_neg (misses .drag (by decide)),
      List.find?_cons_of_neg (misses .swing (by decide)), List.find?_cons_of_pos hits]

theorem State.axisOfStation_eq_none {s : State} {station : Nat}
    (h : s.pageValid .config = false ∨ ∀ a, (s.axis a).state = .unmapped ∨ (s.axis a).station ≠ station) :
    s.axisOfStation station = none := by
  rw [State.axisOfStation]
  obtain invalid | foreign := h
  · rw [if_neg (by rw [invalid]; decide)]
  · split
    · refine List.find?_eq_none.mpr fun a _ => ?_
      obtain unmapped | other := foreign a
      · simp [unmapped]
      · simp [other]
    · rfl

/-- The state with a good sample in its record (R30 items 1 to 4). -/
def State.accepted (s : State) (a : Axis) (x : Sample) : State :=
  s.setAxis a ((s.axis a).accept x s.now (s.feedbackDue a || s.feedbackOvertaken a))

/-- ... and with its two evaluations made (R30 item 5). -/
def State.sampleEvaluated (s : State) (a : Axis) (x : Sample) (order : List Nat) : State :=
  (s.accepted a x).evaluateAll (arrange order [(idStale a, false), (idDriveFault a, x.fault)])

theorem State.setAxis_own (s : State) (a : Axis) (r : AxisRecord) : OwnEffect s (s.setAxis a r) :=
  ⟨rfl, State.setAxis_now s a r, rfl⟩

theorem Leads.trans {s t u : State} (h : Leads s t) (k : Leads t u) : Leads s u :=
  ⟨⟨k.alarm.trans h.alarm, k.now.trans h.now, fun i => (k.definition i).trans (h.definition i), h.sent.trans k.sent⟩,
    k.walk.trans h.walk, k.unit.trans h.unit⟩

theorem sampleIds_ne (a : Axis) : idStale a ≠ idBrakeSlip ∧ idDriveFault a ≠ idBrakeSlip := by
  cases a <;> decide

theorem State.sampleEvaluated_evaluated (s : State) (a : Axis) (x : Sample) (order : List Nat) :
    Evaluated [idStale a, idDriveFault a] (s.accepted a x) (s.sampleEvaluated a x order)
      ∧ Taken (s.accepted a x) (s.sampleEvaluated a x order) (idStale a) false
      ∧ Taken (s.accepted a x) (s.sampleEvaluated a x order) (idDriveFault a) x.fault := by
  have once : [idStale a, idDriveFault a].Nodup := by
    cases a <;> decide
  obtain ⟨evaluated, taken⟩ := (s.accepted a x).evaluateAll_arranged order
    (evs := [(idStale a, false), (idDriveFault a, x.fault)]) once
  exact ⟨evaluated, taken _ _ (by simp) fun h => absurd h (sampleIds_ne a).1,
    taken _ _ (by simp) fun h => absurd h (sampleIds_ne a).2⟩

/-- The record that a good sample leaves does not turn on the links. -/
theorem State.accepted_image {s v : State} (links : v = s.setLinks v.links) (a : Axis) (x : Sample) :
    (v.accepted a x).image = (s.accepted a x).image := by
  rw [links]; rfl

/-- The mark of an expiry that a good sample overtakes (R33, R155). -/
theorem State.accepted_overtakes {s t : State} {a : Axis} {x : Sample} (image : t.image = (s.accepted a x).image) :
    Overtakes s t a := by
  have record : t.axis a = (s.axis a).accept x s.now (s.feedbackDue a || s.feedbackOvertaken a) := by
    have same : t.axis a = (s.accepted a x).axis a := congrArg (Image.axis · a) image
    rw [same, State.accepted, State.axis_setAxis]
  have test : (s.feedbackDue a || s.feedbackOvertaken a) = true ↔ FeedbackDue s a ∨ (s.axis a).overtaken = some s.now := by
    rw [Bool.or_eq_true, State.feedbackDue_iff, State.feedbackOvertaken, decide_eq_true_eq]
  rw [Overtakes, record]
  refine ⟨fun late => ?_, fun early => ?_⟩
  · exact if_pos (test.mpr late)
  · exact if_neg (mt test.mp early)

/-- The record that a good sample leaves, its mark apart. -/
theorem State.accepted_record {s t : State} {a : Axis} {x : Sample} (image : t.image = (s.accepted a x).image) :
    t.image = s.image.setAxis a { s.axis a with
      state := .fresh, position := x.position, speed := x.speed, tension := x.tension
      fault := x.fault, brakeSet := x.brakeSet
      sampleTime := some s.now, timer := some s.now, overtaken := (t.axis a).overtaken } := by
  have record : t.axis a = (s.axis a).accept x s.now (s.feedbackDue a || s.feedbackOvertaken a) := by
    have same : t.axis a = (s.accepted a x).axis a := congrArg (Image.axis · a) image
    rw [same, State.accepted, State.axis_setAxis]
  rw [record]
  exact image

end Sys2Proof.Machine

open Sys2Proof Sys2Proof.Machine

/-- Settles O16: beside a valid REF (O17), what the Router does with a frame is an own effect that nothing evaluates. -/
theorem routerClassifiesUpstream : Obligations.RouterClassifiesUpstream := by
  intro f rest s working free queue
  refine ⟨fun kind zero => ?ref, fun kind own => ?request, fun kind other => ?forwarded, fun kind ref => ?misdirected⟩
  case ref =>
    have own := (s.refTaken_own rest f).evaluated idLinkUpLost false
    have settled := own.settle.own
    rw [← routeUFrame_ref working free queue kind zero] at settled
    exact ⟨_, rfl, congrArg (·.links.waitingRef) settled, congrArg (·.links.watchdog) settled,
      congrArg (·.links.u.rxQueue) settled⟩
  case request =>
    refine ⟨_, rfl, ?_⟩
    rw [routeUFrame_request working free queue kind, if_pos own, State.offerRequest_eq]
    exact OwnEffect.settled ⟨rfl, rfl, rfl⟩
  case forwarded =>
    refine ⟨_, rfl, ?_⟩
    rw [routeUFrame_request working free queue kind, if_neg other, State.offerForward_down]
    exact OwnEffect.settled ⟨rfl, rfl, rfl⟩
  case misdirected =>
    refine ⟨_, rfl, ?_⟩
    rw [routeUFrame_misdirected working free queue kind ref]
    exact OwnEffect.settled ⟨rfl, rfl, rfl⟩

/-- Settles O18: a frame offered first stays in front of what the arbiter places; offered last, it has the last slot that
is left (`State.settle_offerForward`). -/
theorem routerForwardsUpward : Obligations.RouterForwardsUpward := by
  intro f rest upFirst order s working queue
  refine ⟨fun not_fbk not_reply => ?misdirected, fun kind => ?reply, fun kind => ?first, fun kind last => ?last⟩
  case misdirected =>
    refine congrArg Host.Outcome.next ?_
    rw [routeDFrame_takes working queue, State.routeDown, if_neg (show ¬f.kind = kindFbk from not_fbk),
      if_neg (show ¬f.kind = kindMrep from not_reply)]
    rfl
  case reply =>
    refine ⟨_, rfl, ?_⟩
    rw [routeDFrame_reply working queue kind]
    have effect := ((Effect.refl s).then_own (t' := s.tookD rest) rfl rfl rfl List.prefix_rfl).then_offer f
    have settled := effect.settle
    rw [State.offerForward_withAlarmsOf] at settled
    rw [State.withDropsOf, State.settle_uCounters]
    exact settled
  case first =>
    refine ⟨_, rfl, ?_⟩
    obtain kind | ⟨kind, rfl⟩ := kind
    · rw [routeDFrame_reply working queue kind]
      exact State.offerForward_settle (s := s.tookD rest) rfl
    · rw [routeDFrame_offers_first working queue kind]
      exact State.offerForward_settle (s := s.tookD rest) (State.takeSample_links _ f order)
  case last =>
    subst last
    refine ⟨_, rfl, ?_⟩
    rw [routeDFrame_offers_last working queue kind]
    have offered := ((s.tookD rest).takeSample f order).settle_offerForward f
    rw [(s.tookD rest).takeSample_links] at offered
    exact offered

/-- Settles O24: a transmitter takes the head of its queue, in order. -/
theorem transmitterTakesHead : Obligations.TransmitterTakesHead := by
  intro p s working
  refine ⟨fun x rest idle queue => ?start, fun sent x rest sending other queue => ?next, fun sent sending other queue => ?rest⟩
  case start =>
    intro s1
    refine ⟨_, rfl, ?_⟩
    rw [transmitStart, State.atWork_of_working working, LinkPort.takeHead_cons idle queue]
    exact State.settle_effect s1
  case next =>
    intro s1
    refine ⟨_, rfl, ?_⟩
    rw [transmitComplete_taken working sending other,
      LinkPort.takeHead_cons (x := { s.port p with tx := none }) rfl queue]
    exact State.settle_effect s1
  case rest =>
    intro s1
    refine ⟨_, rfl, ?_⟩
    rw [transmitComplete_taken working sending other, LinkPort.takeHead_nil (x := { s.port p with tx := none }) queue]
    exact State.settle_effect s1

/-- Settles O22: a sample that is not taken touches the bad-sample counter at most, and nothing is evaluated. -/
theorem otherSamplesChangeNoRecord : Obligations.OtherSamplesChangeNoRecord := by
  intro f rest upFirst order s
  refine ⟨fun a arrives fails => ?bad, fun working queue kind foreign => ?foreign⟩
  case bad =>
    have owner := arrives.axisOfStation
    obtain ⟨working, queue, kind, -⟩ := arrives
    obtain ⟨v, u, routed⟩ := routeDFrame_fbk working queue kind upFirst order
    have bad : sampleOf a f.words = none := by
      cases good : sampleOf a f.words with
      | none => rfl
      | some x => exact absurd (samplePasses_of_sampleOf good) fails
    have found : v.axisOfStation f.station.toNat = some a := by
      rw [routed.links]; exact owner
    have takes : u = v.badSample a := by
      rw [routed.takes, State.takeSample, found]
      dsimp only
      rw [bad]
    have effect : Effect [] s u (u.withAlarmsOf s) := by
      rw [takes]
      exact (routed.leads.trans (v.setAxis_own a _).leads).effect (Effect.refl _)
    have own := routed.own
    have image : (routeDFrame upFirst order s).image
        = (s.setAxis a { s.axis a with badSamples := bump (s.axis a).badSamples }).image := by
      rw [routed.image, takes, routed.links]
      rfl
    have after := routed.after _ _ effect
    rw [own, image] at after
    exact ⟨_, rfl, after⟩
  case foreign =>
    obtain ⟨v, u, routed⟩ := routeDFrame_fbk working queue kind upFirst order
    have none : v.axisOfStation f.station.toNat = none := by
      rw [routed.links]; exact State.axisOfStation_eq_none foreign
    have takes : u = v := by
      rw [routed.takes, State.takeSample, none]
    have effect : Effect [] s u (u.withAlarmsOf s) := by
      rw [takes]
      exact routed.leads.effect (Effect.refl _)
    have image : (routeDFrame upFirst order s).image = s.image := by
      rw [routed.image, takes, routed.links]
      rfl
    have after := routed.after _ _ effect
    rw [routed.own, image] at after
    exact ⟨_, rfl, after⟩

/-- Settles O19: the record takes the sample (`State.accepted_record`), and both evaluations are made of it. -/
theorem ropeSampleAccepted : Obligations.RopeSampleAccepted := by
  intro a pos spd ten fl f rest upFirst order s rope arrives words passes
  have owner := arrives.axisOfStation
  obtain ⟨working, queue, kind, -⟩ := arrives
  obtain ⟨v, u, routed⟩ := routeDFrame_fbk working queue kind upFirst order
  let x : Sample := ⟨pos.toNat, spd.toInt, ten.toNat, fl.getLsbD 0, fl.getLsbD 1⟩
  have good : sampleOf a f.words = some x := by
    rw [words] at passes ⊢
    exact sampleOf_rope rope passes
  have found : v.axisOfStation f.station.toNat = some a := by
    rw [routed.links]; exact owner
  have takes : u = v.sampleEvaluated a x order := by
    rw [routed.takes, State.takeSample, found]
    dsimp only
    rw [good]
    obtain rfl | rfl := rope <;> rfl
  obtain ⟨evaluated, stale, fault⟩ := v.sampleEvaluated_evaluated a x order
  rw [← takes] at evaluated stale fault
  have leads : Leads s (v.accepted a x) := routed.leads.trans (v.setAxis_own a _).leads
  have image : (routeDFrame upFirst order s).image = (s.accepted a x).image := by
    rw [routed.image, evaluated.image]
    exact State.accepted_image routed.links a x
  have after := routed.after _ _ (leads.effect evaluated.effect)
  rw [routed.own, State.accepted_record image] at after
  exact ⟨_, rfl, after, State.accepted_overtakes image, (leads.taken stale).of_untaken (routed.quiet _) routed.mode,
    (leads.taken fault).of_untaken (routed.quiet _) routed.mode⟩

end

section
/-! PROOFS. A good SWING sample (R30, R140) and the expiry of a feedback timer (R32, R33, R137, R155). -/

namespace Sys2Proof.Machine

/-! ### HALT entry and the walk session (R119, R136) -/

theorem WalkSeq.endStep_state (w : WalkSeq) (now : Time) (result : StepResult) :
    (w.endStep now result).state = .idle ∨ (w.endStep now result).state = w.state := by
  rw [WalkSeq.endStep]
  split
  · exact .inr rfl
  · exact .inl rfl

theorem WalkSeq.endStep_session {w : WalkSeq} {now : Time} {result : StepResult}
    (h : (w.endStep now result).session = true) : w.session = true := by
  have queue : (w.endStep now result).queue = w.queue := by
    rw [WalkSeq.endStep]
    split <;> rfl
  rw [WalkSeq.session_iff, queue] at h
  rw [WalkSeq.session_iff]
  refine h.imp_left fun active => ?_
  obtain idle | same := w.endStep_state now result
  · exact absurd idle active
  · rwa [← same]

/-- HALT entry begins no session. -/
theorem WalkSeq.haltEntry_session {w : WalkSeq} {now : Time} (h : (w.haltEntry now).session = true) :
    w.session = true := by
  by_contra off
  have none := mt (WalkSeq.session_iff w).mpr off
  rw [not_or, not_not, not_not] at none
  obtain ⟨idle, empty⟩ := none
  rw [WalkSeq.haltEntry_idle idle, WalkSeq.session_iff] at h
  obtain active | queued := h
  · exact active idle
  · exact queued rfl

/-- A Walk Sequencer at rest with nothing queued takes HALT entry as it is. -/
theorem WalkSeq.haltEntry_rest {w : WalkSeq} (idle : w.state = .idle) (empty : w.queue = []) (now : Time) :
    w.haltEntry now = w := by
  rw [WalkSeq.haltEntry_idle idle, WalkSeq.emptied, ← empty]

theorem State.evaluate_walk_rest {s : State} (idle : s.walk.state = .idle) (empty : s.walk.queue = []) (i : AlarmId)
    (b : Bool) : (s.evaluate i b).walk = s.walk := by
  rw [State.evaluate_walk, WalkSeq.haltEntry_rest idle empty, ite_self]

/-- Evaluations leave the Walk Sequencer where the mode stands. -/
theorem Evaluated.walk_of_mode {ids : List AlarmId} {s t : State} (h : Evaluated ids s t) (mode : t.mode = s.mode) :
    t.walk = s.walk := h.walk.trans (if_pos mode)

/-! ### SWING_BRAKE_SLIP (R140) -/

theorem State.swingSample_evaluated (s : State) :
    Evaluated (if s.walk.session then [idBrakeSlip] else []) s s.swingSample := by
  cases held : s.walk.lockAngle with
  | none => simpa only [State.swingSample, held] using (Evaluated.refl s).mono fun _ h => absurd h List.not_mem_nil
  | some lock =>
    cases session : s.walk.session with
    | false => simpa only [State.swingSample, held, session, Bool.false_eq_true, if_false] using Evaluated.refl s
    | true => simpa only [State.swingSample, held, session, if_true] using State.evaluate_evaluated _ _ _

theorem State.swingSample_of_session {s : State} {lock : Nat} (session : s.walk.session = true)
    (held : s.walk.lockAngle = some lock) :
    s.swingSample = s.evaluate idBrakeSlip
      (decide (s.walkField walkSteerTolerance < circularDistance (s.axis .swing).position lock)) := by
  simp only [State.swingSample, held, session, if_true]

/-! ### The loss of the walk axis (R137) -/

/-- The Walk Sequencer with its step ended FAULTED and its queue emptied. -/
def WalkSeq.lost (w : WalkSeq) (now : Time) : WalkSeq := { w.endStep now .faulted with queue := [] }

theorem WalkSeq.lost_idle {w : WalkSeq} (agrees : stepAgrees w.state w.current) (now : Time) :
    (w.lost now).state = .idle := by
  rw [WalkSeq.lost]
  exact (stepAgrees_endStep now .faulted (stepAgrees_none agrees)).1

theorem State.walkAxisLost_of_moving {s : State} (moving : s.walk.state = .step ∨ s.walk.state = .setdown) :
    s.walkAxisLost = s.withWalk (s.walk.lost s.now) := by
  obtain state | state := moving <;> rw [State.walkAxisLost, state] <;> rfl

theorem State.walkAxisLost_of_still {s : State} (still : ¬(s.walk.state = .step ∨ s.walk.state = .setdown)) :
    s.walkAxisLost = s := by
  rw [State.walkAxisLost]
  split
  · rename_i state; exact absurd (.inl state) still
  · rename_i state; exact absurd (.inr state) still
  · rfl
  · rfl

/-- A change of the Walk Sequencer evaluates SWING_BRAKE_SLIP at most. -/
theorem State.withWalk_evaluated (s : State) (w : WalkSeq) : Evaluated [idBrakeSlip] (s.setWalk w) (s.withWalk w) := by
  simp only [State.withWalk]
  split
  · exact State.evaluate_evaluated _ _ _
  · exact (Evaluated.refl _).mono (by simp)

theorem State.withWalk_walk_rest {s : State} {w : WalkSeq} (idle : w.state = .idle) (empty : w.queue = []) :
    (s.withWalk w).walk = w := by
  simp only [State.withWalk]
  split
  · exact State.evaluate_walk_rest (s := s.setWalk w) idle empty _ _
  · rfl

/-! ### The expiry (R32) -/

/-- The record of an axis whose feedback timer has expired. -/
def State.staled (s : State) (a : Axis) : State :=
  s.setAxis a { s.axis a with state := .stale, timer := some s.now, overtaken := none }

theorem feedbackTimerExpiry_due {s : State} {a : Axis} (working : s.working = true) (due : FeedbackDue s a) :
    feedbackTimerExpiry a s = (s.axisExpires a).settle := by
  rw [feedbackTimerExpiry, State.atWork_of_working working, if_pos ((s.feedbackDue_iff a).mpr due)]

theorem feedbackTimerExpiry_early {s : State} {a : Axis} (working : s.working = true) (early : ¬FeedbackDue s a) :
    feedbackTimerExpiry a s
      = if (s.axis a).overtaken = some s.now then (s.overtakenExpires a).settle else s := by
  rw [feedbackTimerExpiry, State.atWork_of_working working, if_neg (mt (s.feedbackDue_iff a).mp early),
    State.feedbackOvertaken]
  simp only [decide_eq_true_eq]

/-- Unless it loses a step to the walk axis, an expiry evaluates STALE_x alone. -/
theorem State.axisExpires_kept {s : State} {a : Axis}
    (kept : ¬(a = .walk ∧ (s.axis a).state = .fresh ∧ (s.walk.state = .step ∨ s.walk.state = .setdown))) :
    s.axisExpires a = (s.staled a).evaluate (idStale a) true := by
  have same : (if a = .walk ∧ (s.axis a).state = .fresh then (s.staled a).walkAxisLost else s.staled a) = s.staled a := by
    split
    · rename_i leaves
      exact State.walkAxisLost_of_still fun moving => kept ⟨leaves.1, leaves.2, moving⟩
    · rfl
  rw [State.axisExpires]
  exact congrArg (fun v : State => v.evaluate (idStale a) true) same

theorem State.axisExpires_lost {s : State} (fresh : (s.axis .walk).state = .fresh)
    (moving : s.walk.state = .step ∨ s.walk.state = .setdown) :
    s.axisExpires .walk = ((s.staled .walk).withWalk (s.walk.lost s.now)).evaluate (idStale .walk) true := by
  have lost : (if Axis.walk = .walk ∧ (s.axis .walk).state = .fresh then (s.staled .walk).walkAxisLost else s.staled .walk)
      = (s.staled .walk).withWalk (s.walk.lost s.now) :=
    (if_pos ⟨rfl, fresh⟩).trans (State.walkAxisLost_of_moving (s := s.staled .walk) moving)
  rw [State.axisExpires]
  exact congrArg (fun v : State => v.evaluate (idStale .walk) true) lost

theorem idStale_ne (a : Axis) : idStale a ≠ idBrakeSlip := (sampleIds_ne a).1

end Sys2Proof.Machine

open Sys2Proof Sys2Proof.Machine

/-- Settles O20: after the sample's own evaluations the session is evaluated, if one is active; where the mode stands, the
lock angle is that of before. -/
theorem swingSampleAccepted : Obligations.SwingSampleAccepted := by
  intro pos spd fl f rest upFirst order s arrives words passes
  have owner := arrives.axisOfStation
  obtain ⟨working, queue, kind, -⟩ := arrives
  obtain ⟨v, u, routed⟩ := routeDFrame_fbk working queue kind upFirst order
  let x : Sample := ⟨pos.toNat, spd.toInt, 0, fl.getLsbD 0, fl.getLsbD 1⟩
  have good : sampleOf .swing f.words = some x := by
    rw [words] at passes ⊢
    exact sampleOf_swing passes
  have found : v.axisOfStation f.station.toNat = some .swing := by
    rw [routed.links]; exact owner
  have takes : u = (v.sampleEvaluated .swing x order).swingSample := by
    rw [routed.takes, State.takeSample, found]
    dsimp only
    rw [good]
    rfl
  obtain ⟨evaluated, stale, fault⟩ := v.sampleEvaluated_evaluated .swing x order
  have slip := (v.sampleEvaluated .swing x order).swingSample_evaluated
  rw [← takes] at slip
  have leads : Leads s (v.accepted .swing x) := routed.leads.trans (v.setAxis_own .swing _).leads
  have session (on : (v.sampleEvaluated .swing x order).walk.session = true) : s.walk.session = true := by
    rw [evaluated.walk] at on
    split at on
    · rwa [leads.walk] at on
    · rw [← leads.walk]
      exact WalkSeq.haltEntry_session on
  have all : Evaluated ([idStale .swing, idDriveFault .swing] ++
      if (v.sampleEvaluated .swing x order).walk.session then [idBrakeSlip] else []) (v.accepted .swing x) u := by
    refine evaluated.trans slip fun i hi => ?_
    split
    · revert i
      decide
    · exact List.not_mem_nil
  have bounded := all.mono (ids' := if s.walk.session then [idStale .swing, idDriveFault .swing, idBrakeSlip]
      else [idStale .swing, idDriveFault .swing]) fun i hi => by
    by_cases on : (v.sampleEvaluated .swing x order).walk.session = true
    · rw [if_pos (session on)]
      rw [if_pos on] at hi
      exact hi
    · rw [if_neg on, List.append_nil] at hi
      split
      · exact List.mem_append_left [idBrakeSlip] hi
      · exact hi
  have out {i : AlarmId} (ne : i ≠ idBrakeSlip) : i ∉ if (v.sampleEvaluated .swing x order).walk.session
      then [idBrakeSlip] else [] := by
    split
    · simpa using ne
    · exact List.not_mem_nil
  have later {i : AlarmId} {b : Bool} (ne : i ≠ idBrakeSlip)
      (taken : Taken (v.accepted .swing x) (v.sampleEvaluated .swing x order) i b) :
      Taken s (routeDFrame upFirst order s) i b :=
    (leads.taken (taken.then_untaken (slip.untaken (out ne) fun h => absurd h ne) slip.stays_halted)).of_untaken
      (routed.quiet i) routed.mode
  have image : (routeDFrame upFirst order s).image = (s.accepted .swing x).image := by
    rw [routed.image, all.image]
    exact State.accepted_image routed.links .swing x
  have after := routed.after _ _ (leads.effect bounded.effect)
  rw [routed.own, State.accepted_record image] at after
  refine ⟨_, rfl, after, State.accepted_overtakes image, later (by decide) stale, later (by decide) fault,
    fun lock on held mode => ?_⟩
  have mode_u : u.mode = (v.accepted .swing x).mode := routed.mode.symm.trans (mode.trans leads.mode.symm)
  obtain ⟨mode_e, mode_s⟩ := evaluated.mode_between slip.toActed mode_u
  have walk_e := (evaluated.walk_of_mode mode_e).trans leads.walk
  have made := State.swingSample_of_session (s := v.sampleEvaluated .swing x order) (lock := lock) (by rw [walk_e]; exact on)
    (by rw [walk_e]; exact held)
  have value : decide ((v.sampleEvaluated .swing x order).walkField walkSteerTolerance
        < circularDistance ((v.sampleEvaluated .swing x order).axis .swing).position lock)
      = decide (s.walkField walkSteerTolerance < min (angleSub pos.toNat lock) (angleSub lock pos.toNat)) := by
    rw [State.walkField, State.page, evaluated.store, State.axis, evaluated.image, routed.links]
    rfl
  rw [← takes, value] at made
  have taken := State.evaluate_taken' (v.sampleEvaluated .swing x order) idBrakeSlip
    (decide (s.walkField walkSteerTolerance < min (angleSub pos.toNat lock) (angleSub lock pos.toNat)))
    fun _ => by rw [← made]; exact mode_s
  rw [← made] at taken
  have reading := evaluated.sameReading (i := idBrakeSlip) (by decide) fun _ => mode_e
  exact (leads.taken (reading.taken taken)).of_untaken (routed.quiet idBrakeSlip) routed.mode

/-- Settles O23: the record goes STALE first (`State.staled`); a step that it loses ends before STALE_WALK is evaluated
(`State.axisExpires_lost`), and the Walk Sequencer, at rest then, takes a HALT entry as it is. -/
theorem feedbackTimerExpires : Obligations.FeedbackTimerExpires := by
  intro a s working u lost
  refine ⟨fun due kept => ?stale, fun due is_lost agrees => ?lost, fun early marked => ?overtaken, fun early unmarked => ?none⟩
  case stale =>
    have own : OwnEffect s (s.staled a) := s.setAxis_own a _
    refine ⟨_, rfl, ?_⟩
    rw [feedbackTimerExpiry_due working due, State.axisExpires_kept kept]
    exact ⟨(own.evaluated _ _).settle, (own.taken (State.evaluate_taken _ (idStale_ne a) true)).settle⟩
  case lost =>
    obtain ⟨rfl, fresh, moving⟩ := is_lost
    let v : State := (s.staled .walk).setWalk (s.walk.lost s.now)
    have idle : (s.walk.lost s.now).state = .idle := WalkSeq.lost_idle agrees s.now
    have reads : Reads s v := ⟨rfl, rfl, fun _ => rfl, List.prefix_rfl⟩
    have first := (s.staled .walk).withWalk_evaluated (s.walk.lost s.now)
    have second := ((s.staled .walk).withWalk (s.walk.lost s.now)).evaluate_evaluated (idStale .walk) true
    have both := (first.trans second (by decide)).mono (ids' := [idStale .walk, idBrakeSlip]) (by decide)
    have walk_first : ((s.staled .walk).withWalk (s.walk.lost s.now)).walk = s.walk.lost s.now :=
      State.withWalk_walk_rest idle rfl
    have walk : (((s.staled .walk).withWalk (s.walk.lost s.now)).evaluate (idStale .walk) true).walk
        = s.walk.lost s.now := by
      rw [State.evaluate_walk_rest (by rw [walk_first]; exact idle) (by rw [walk_first]; rfl), walk_first]
    have reading := first.sameReading (i := idStale .walk) (by decide) fun h => absurd h (by decide)
    have taken := State.evaluate_taken ((s.staled .walk).withWalk (s.walk.lost s.now)) (i := idStale .walk) (by decide) true
    have settled := State.settle_effect
      (((s.staled .walk).withWalk (s.walk.lost s.now)).evaluate (idStale .walk) true)
    refine ⟨_, rfl, ?_⟩
    rw [feedbackTimerExpiry_due working due, State.axisExpires_lost fresh moving]
    refine ⟨?_, ?_, (reads.taken (reading.taken taken)).settle, (State.settle_walk _).trans walk⟩
    · rw [State.settle_withAlarmsOf, both.only]
      rfl
    · exact (reads.alarmFrame both.frame).then_quiet settled.alarms (State.settle_mode _) (by rw [both.links]; exact List.prefix_rfl)
        settled.sent
  case overtaken =>
    have own : OwnEffect s (s.setAxis a { s.axis a with overtaken := none }) := s.setAxis_own a _
    refine ⟨_, rfl, ?_⟩
    rw [feedbackTimerExpiry_early working early, if_pos marked, State.overtakenExpires]
    exact ⟨(own.evaluated _ _).settle, (own.taken (State.evaluate_taken _ (idStale_ne a) true)).settle⟩
  case none =>
    exact congrArg Host.Outcome.next ((feedbackTimerExpiry_early working early).trans (if_neg unmarked))

end

section
/-! PROOFS. A good WALK sample and the cam phases (R30, R122, R131 to R133, R137, R140). -/

namespace Sys2Proof.Machine

/-! ### Changes of the Walk Sequencer and evaluations that leave the mode (R168) -/

/-- From `s` to `t` the Walk Sequencer may change, IDs of `ids` are evaluated, and the mode stands. -/
structure Calmly (ids : List AlarmId) (s t : State) : Prop extends Acted ids s t where
  mode : t.mode = s.mode

namespace Calmly

variable {ids ids' : List AlarmId} {s t u : State} {i : AlarmId} {b : Bool}

theorem refl (s : State) : Calmly [] s s := ⟨.refl s, rfl⟩

theorem setWalk (s : State) (w : WalkSeq) : Calmly [] s (s.setWalk w) := ⟨.setWalk s w, rfl⟩

theorem of_evaluated (h : Evaluated ids s t) (mode : t.mode = s.mode) : Calmly ids s t := ⟨h.toActed, mode⟩

theorem untaken (h : Calmly ids s t) (hi : i ∉ ids) : Untaken s t i := h.toActed.untaken hi fun _ => h.mode

/-- An evaluation after changes that do not touch its ID. -/
theorem then_taken (h : Calmly ids s t) (hi : i ∉ ids) (k : Taken t u i b) : Taken s u i b :=
  SameReading.taken ⟨h.untaken hi, h.now, h.definition i⟩ k

/-- An evaluation before changes that do not touch its ID. -/
theorem after_taken (k : Taken s t i b) (h : Calmly ids t u) (hi : i ∉ ids) : Taken s u i b :=
  k.of_untaken (h.untaken hi) h.mode

/-- Where the mode stands an ID may be evaluated twice. -/
theorem trans (h : Calmly ids s t) (k : Calmly ids' t u) : Calmly (ids ++ ids') s u := by
  have mode : u.mode = s.mode := k.mode.trans h.mode
  have out {i} (hi : untouchedId (ids ++ ids') s u i) : i ∉ ids ∧ i ∉ ids' := by
    have mem := hi.1
    rwa [List.mem_append, not_or] at mem
  exact {
    only := by rw [k.only, h.only]; rfl
    frame := {
      status := fun i hi => ((h.untaken (out hi).1).trans (k.untaken (out hi).2)).1
      report := fun i hi pending => h.frame.report i ⟨(out hi).1, fun _ => h.mode⟩
        (k.frame.report i ⟨(out hi).2, fun _ => k.mode⟩ pending)
      entry := fun i hi => ((h.untaken (out hi).1).trans (k.untaken (out hi).2)).2
      owed := fun i pending => (h.frame.owed i pending).trans (k.frame.owed i) (by rw [h.links]) (by rw [k.links])
      cause := k.frame.cause.trans h.frame.cause
      mode := .inl mode }
    halts := .inl mode
    mode := mode }

theorem mono (h : Calmly ids s t) (sub : ∀ i ∈ ids, i ∈ ids') : Calmly ids' s t := ⟨h.toActed.mono sub, h.mode⟩

end Calmly

/-- An ID whose definition has no severity STOP is evaluated without a change of the mode. -/
theorem State.evaluate_mode_of_calm {s : State} {i : AlarmId} (calm : (s.definition i).severity ≠ .stop) (b : Bool) :
    (s.evaluate i b).mode = s.mode := by
  obtain ⟨same, e⟩ | ⟨run, halts, -⟩ := State.evaluate_cases s i b
  · rw [e]; exact same
  · obtain ⟨-, stop, -⟩ := State.evaluate0_halts run halts
    exact absurd stop calm

theorem State.evaluate_calmly {s : State} {i : AlarmId} (calm : (s.definition i).severity ≠ .stop) (b : Bool) :
    Calmly [i] s (s.evaluate i b) ∧ Taken s (s.evaluate i b) i b ∧ (s.evaluate i b).walk = s.walk := by
  have mode := State.evaluate_mode_of_calm calm b
  have evaluated := s.evaluate_evaluated i b
  exact ⟨.of_evaluated evaluated mode, s.evaluate_taken' i b fun _ => mode, evaluated.walk_of_mode mode⟩

theorem State.evaluateAll_mode_of_calm {s : State} {evs : List (AlarmId × Bool)}
    (calm : ∀ e ∈ evs, (s.definition e.1).severity ≠ .stop) : (s.evaluateAll evs).mode = s.mode := by
  induction evs generalizing s with
  | nil => rfl
  | cons e evs ih =>
    have first := s.evaluate_evaluated e.1 e.2
    rw [State.evaluateAll_cons]
    refine (ih fun x hx => ?_).trans (State.evaluate_mode_of_calm (calm e List.mem_cons_self) e.2)
    rw [first.definition]
    exact calm x (List.mem_cons_of_mem _ hx)

theorem State.evaluateAll_calmly {s : State} (order : List Nat) {evs : List (AlarmId × Bool)}
    (once : (evs.map Prod.fst).Nodup) (calm : ∀ e ∈ evs, (s.definition e.1).severity ≠ .stop) :
    Calmly (evs.map Prod.fst) s (s.evaluateAll (arrange order evs))
      ∧ (∀ i b, (i, b) ∈ evs → Taken s (s.evaluateAll (arrange order evs)) i b)
      ∧ (s.evaluateAll (arrange order evs)).walk = s.walk := by
  have mode : (s.evaluateAll (arrange order evs)).mode = s.mode :=
    State.evaluateAll_mode_of_calm fun e he => calm e ((arrange_perm order evs once).mem_iff.mp he)
  obtain ⟨evaluated, taken⟩ := s.evaluateAll_arranged order once
  exact ⟨.of_evaluated evaluated mode, fun i b mem => taken i b mem fun _ => mode, evaluated.walk_of_mode mode⟩

/-- From `s` to `t` the Walk Sequencer becomes `w`, and SWING_BRAKE_SLIP is evaluated where that ends the session
(R140). -/
structure Walked (s t : State) (w : WalkSeq) : Prop where
  calmly : Calmly [idBrakeSlip] s t
  walk   : t.walk = w
  ended  : s.walk.session = true → w.session = false → Taken s t idBrakeSlip false
  going  : ¬(s.walk.session = true ∧ w.session = false) → Untaken s t idBrakeSlip

theorem State.withWalk_walked {s : State} (calm : (s.definition idBrakeSlip).severity ≠ .stop) (w : WalkSeq) :
    Walked s (s.withWalk w) w := by
  have changed := Calmly.setWalk s w
  by_cases ends : (s.walk.session && !w.session) = true
  · have made : s.withWalk w = (s.setWalk w).evaluate idBrakeSlip false := if_pos ends
    obtain ⟨calmly, taken, walk⟩ := State.evaluate_calmly (s := s.setWalk w) (i := idBrakeSlip) calm false
    rw [made]
    refine ⟨(changed.trans calmly).mono (by simp), walk, fun _ _ => changed.then_taken (by simp) taken, fun going => ?_⟩
    exact absurd (by simpa using ends) going
  · have made : s.withWalk w = s.setWalk w := if_neg ends
    rw [made]
    refine ⟨changed.mono (by simp), rfl, fun on off => absurd (by simp [on, off]) ends, fun _ => changed.untaken (by simp)⟩

/-! ### What a sample does to the step in hand (R131 to R133) -/

/-- The Walk Sequencer with its step moved to a phase. -/
abbrev WalkSeq.follow (w : WalkSeq) (c : CurrentStep) (ph : CamPhase) (now : Time) : WalkSeq :=
  { w with current := some (c.enterPhase ph now) }

/-- The Walk Sequencer after a good WALK sample of its step, and whether it has stalled. -/
def WalkSeq.sampled (w : WalkSeq) (c : CurrentStep) (fault : Bool) (ph : CamPhase) (late : Bool) (now : Time) :
    WalkSeq × Bool :=
  if fault then (w.lost now, false)
  else
    match sampleEnds w.state (decide (c.phase ≠ some ph)) ph c.cause with
    | some result => ((w.follow c ph now).endStep now result, false)
    | none =>
      if c.phase = some ph ∧ late = true then ({ (w.follow c ph now).endStep now .stalled with queue := [] }, true)
      else (w.follow c ph now, false)

theorem State.walkSample_eq {s : State} {c : CurrentStep} (current : s.walk.current = some c)
    (moving : s.walk.state = .step ∨ s.walk.state = .setdown) :
    let r := s.walk.sampled c (s.axis .walk).fault (s.camPhase (s.axis .walk).position)
      (s.stalled c (s.camPhase (s.axis .walk).position)) s.now
    s.walkSample = if r.2 then (s.withWalk r.1).evaluate idWalkStall true else s.withWalk r.1 := by
  simp only [State.walkSample, current, if_pos moving, WalkSeq.sampled]
  generalize s.camPhase (s.axis .walk).position = ph
  generalize s.stalled c ph = late
  cases (s.axis .walk).fault with
  | true => exact State.walkAxisLost_of_moving moving
  | false =>
    simp only [Bool.false_eq_true, if_false]
    generalize sampleEnds s.walk.state (decide (c.phase ≠ some ph)) ph c.cause = ends
    cases ends with
    | some result => rfl
    | none =>
      have test : (!decide (c.phase ≠ some ph) && late) = true ↔ c.phase = some ph ∧ late = true := by simp
      by_cases stalls : c.phase = some ph ∧ late = true
      · simp only [if_pos stalls, if_pos (test.mpr stalls), if_true]
      · simp only [if_neg stalls, if_neg (mt test.mp stalls), Bool.false_eq_true, if_false]

namespace WalkSeq

variable {w : WalkSeq} {c : CurrentStep} {ph : CamPhase} {late : Bool} {now : Time}

theorem sampled_fault : w.sampled c true ph late now = (w.lost now, false) := rfl

theorem sampled_done (step : w.state = .step) (rest : ph = .rest) (changed : ¬c.phase = some ph) :
    w.sampled c false ph late now = ((w.follow c ph now).endStep now .done, false) := by
  subst rest
  simp [sampled, step, sampleEnds, changed]

theorem sampled_down (setdown : w.state = .setdown) (low : ph = .rest ∨ ph = .p1) :
    w.sampled c false ph late now = ((w.follow c ph now).endStep now
      (if c.cause = some .halted then .halted else .cancelled), false) := by
  have result : setdownResult c.cause = if c.cause = some .halted then StepResult.halted else .cancelled := by
    cases c.cause with
    | none => rfl
    | some cause => cases cause <;> rfl
  rw [← result]
  obtain rfl | rfl := low <;> simp [sampled, setdown, sampleEnds]

/-- The sample ends nothing: the phase is followed, or the step stalls in it. -/
theorem sampled_goes (moving : w.state = .step ∨ w.state = .setdown)
    (not_done : ¬(w.state = .step ∧ ph = .rest ∧ ¬c.phase = some ph))
    (not_down : ¬(w.state = .setdown ∧ (ph = .rest ∨ ph = .p1))) :
    w.sampled c false ph late now =
      if c.phase = some ph ∧ late = true
      then ({ (w.follow c ph now).endStep now .stalled with queue := [] }, true)
      else (w.follow c ph now, false) := by
  have goes : sampleEnds w.state (decide (c.phase ≠ some ph)) ph c.cause = none := by
    obtain state | state := moving
    · rw [state]
      cases ph with
      | rest =>
        have same : c.phase = some .rest := by
          by_contra changed
          exact not_done ⟨state, rfl, changed⟩
        simp [sampleEnds, same]
      | _ => rfl
    · rw [state]
      cases ph with
      | rest => exact absurd ⟨state, .inl rfl⟩ not_down
      | p1 => exact absurd ⟨state, .inr rfl⟩ not_down
      | _ => rfl
  simp only [sampled, goes, Bool.false_eq_true, if_false]

end WalkSeq

/-- What a good WALK sample does at the Walk Sequencer and to its alarms. -/
structure WalkSampled (s t : State) (r : WalkSeq × Bool) : Prop where
  calmly    : Calmly [idBrakeSlip, idWalkStall] s t
  walk      : t.walk = r.1
  stalled   : r.2 = true → Taken s t idWalkStall true
  unstalled : r.2 = false → Untaken s t idWalkStall
  ended     : s.walk.session = true → r.1.session = false → Taken s t idBrakeSlip false
  going     : ¬(s.walk.session = true ∧ r.1.session = false) → Untaken s t idBrakeSlip

theorem State.walkSample_sampled {s : State} {c : CurrentStep} (current : s.walk.current = some c)
    (moving : s.walk.state = .step ∨ s.walk.state = .setdown)
    (slip : (s.definition idBrakeSlip).severity ≠ .stop) (stall : (s.definition idWalkStall).severity ≠ .stop) :
    WalkSampled s s.walkSample (s.walk.sampled c (s.axis .walk).fault (s.camPhase (s.axis .walk).position)
      (s.stalled c (s.camPhase (s.axis .walk).position)) s.now) := by
  rw [State.walkSample_eq current moving]
  generalize s.walk.sampled c (s.axis .walk).fault (s.camPhase (s.axis .walk).position)
      (s.stalled c (s.camPhase (s.axis .walk).position)) s.now = r
  obtain ⟨w, stalls⟩ := r
  obtain ⟨calmly, walk, ended, going⟩ := State.withWalk_walked slip w
  cases stalls with
  | false =>
    exact ⟨calmly.mono (by simp), walk, nofun, fun _ => calmly.untaken (by decide), ended, going⟩
  | true =>
    obtain ⟨later, taken, same⟩ := State.evaluate_calmly (s := s.withWalk w) (i := idWalkStall)
      (by rw [calmly.definition]; exact stall) true
    exact ⟨calmly.trans later, same.trans walk, fun _ => calmly.then_taken (by decide) taken, nofun,
      fun on off => later.after_taken (ended on off) (by decide),
      fun goes => (going goes).trans (later.untaken (by decide))⟩

/-- Without a step in hand a sample is nothing to the Walk Sequencer. -/
theorem State.walkSample_of_still {s : State} (still : ¬(s.walk.state = .step ∨ s.walk.state = .setdown)) :
    s.walkSample = s := by
  simp only [State.walkSample]
  split
  · rfl
  · rw [if_neg still]

theorem WalkSeq.haltEntry_still {w : WalkSeq} (still : w.state = .idle ∨ w.state = .prep) (now : Time) :
    ¬((w.haltEntry now).state = .step ∨ (w.haltEntry now).state = .setdown) := by
  obtain state | state := still
  · rw [WalkSeq.haltEntry_idle state]
    simp [state]
  · rw [WalkSeq.haltEntry_prep state]
    obtain e | e := w.emptied.endStep_state now .halted
    · simp [e]
    · simp [e, state]

/-! ### The cam phases (R122) -/

/-- Five boundaries that rise part the turn into five. -/
theorem State.camPhase_iff {s : State} {angle : Nat} {a0 a1 a2 a3 a4 : Nat} (h0 : s.walkField (walkBoundary 0) = a0)
    (h1 : s.walkField (walkBoundary 1) = a1) (h2 : s.walkField (walkBoundary 2) = a2)
    (h3 : s.walkField (walkBoundary 3) = a3) (h4 : s.walkField (walkBoundary 4) = a4)
    (r0 : a0 < a1) (r1 : a1 < a2) (r2 : a2 < a3) (r3 : a3 < a4) :
    (s.camPhase angle = .p1 ↔ a0 ≤ angle ∧ angle < a1) ∧ (s.camPhase angle = .p2 ↔ a1 ≤ angle ∧ angle < a2)
    ∧ (s.camPhase angle = .p3 ↔ a2 ≤ angle ∧ angle < a3) ∧ (s.camPhase angle = .p4 ↔ a3 ≤ angle ∧ angle < a4)
    ∧ (s.camPhase angle = .rest ↔ a4 ≤ angle ∨ angle < a0) := by
  simp only [State.camPhase, h0, h1, h2, h3, h4]
  split
  · refine ⟨?_, ?_, ?_, ?_, ?_⟩ <;> simp <;> omega
  · split
    · refine ⟨?_, ?_, ?_, ?_, ?_⟩ <;> simp <;> omega
    · split
      · refine ⟨?_, ?_, ?_, ?_, ?_⟩ <;> simp <;> omega
      · split
        · refine ⟨?_, ?_, ?_, ?_, ?_⟩ <;> simp <;> omega
        · refine ⟨?_, ?_, ?_, ?_, ?_⟩ <;> simp <;> omega

/-! ### The sample routed -/

/-- The WALK sample of these words. -/
abbrev walkSampleWith (pos fl : Word) : Sample := ⟨pos.toNat, 0, 0, fl.getLsbD 0, fl.getLsbD 1⟩

theorem SampleRouted.walk_takes {s v u t : State} {f : Frame} {rest : List Frame} {order : List Nat} {pos fl : Word}
    (routed : SampleRouted f rest order s v u t) (owner : s.axisOfStation f.station.toNat = some .walk)
    (words : f.words = [pos, fl]) (passes : samplePasses .walk f.words) :
    u = (v.sampleEvaluated .walk (walkSampleWith pos fl) order).walkSample := by
  have good : sampleOf .walk f.words = some (walkSampleWith pos fl) := by
    rw [words] at passes ⊢
    exact sampleOf_walk passes
  have found : v.axisOfStation f.station.toNat = some .walk := by
    rw [routed.links]; exact owner
  rw [routed.takes, State.takeSample, found]
  dsimp only
  rw [good]
  rfl

/-! ### A step followed, its mode standing -/

theorem State.walkField_of_store {s t : State} (store : t.store = s.store) : t.walkField = s.walkField := by
  funext f
  rw [State.walkField, State.walkField, State.page, State.page, store]

theorem State.camPhase_of_store {s t : State} (store : t.store = s.store) (angle : Nat) :
    t.camPhase angle = s.camPhase angle := by
  rw [State.camPhase, State.camPhase, State.walkField_of_store store]

theorem State.stalled_of_store {s t : State} (store : t.store = s.store) (now : t.now = s.now) (c : CurrentStep)
    (ph : CamPhase) : t.stalled c ph = decide (s.phaseMax ph < since s.now (c.phaseStart.getD s.now)) := by
  have longest : t.phaseMax ph = s.phaseMax ph := by
    cases ph <;> simp only [State.phaseMax, State.walkField_of_store store]
  rw [State.stalled, longest, now]

/-- The sample's own alarms, evaluated where no raise can enter a STOP entry. -/
theorem State.sampleEvaluated_calmly {s v : State} {a : Axis} {x : Sample} (order : List Nat)
    (accepted : Leads s (v.accepted a x)) (calm : calm s [idStale a, idDriveFault a]) :
    Calmly [idStale a, idDriveFault a] (v.accepted a x) (v.sampleEvaluated a x order)
      ∧ (v.sampleEvaluated a x order).walk = s.walk := by
  obtain ⟨calmly, -, walk⟩ := State.evaluateAll_calmly (s := v.accepted a x) order
    (evs := [(idStale a, false), (idDriveFault a, x.fault)])
    (show [idStale a, idDriveFault a].Nodup by cases a <;> decide) fun e he => by
      rw [accepted.definition]
      obtain rfl | he := List.mem_cons.mp he
      · exact calm _ (by simp)
      · rw [List.mem_singleton.mp he]
        exact calm _ (by simp)
  exact ⟨calmly, walk.trans accepted.walk⟩

/-- From `s` to `t` a good WALK sample is taken and the step in hand goes to `r`. -/
structure WalkSampleTaken (pos fl : Word) (rest : List Frame) (s t : State) (r : WalkSeq × Bool) : Prop where
  own       : t.withAlarmsOf s = ((s.tookD rest).setAxis .walk { s.image.walk with
      state := .fresh, position := pos.toNat, speed := 0, tension := 0
      fault := fl.getLsbD 0, brakeSet := fl.getLsbD 1
      sampleTime := some s.now, timer := some s.now, overtaken := (t.axis .walk).overtaken }).withDropsOf t
  frame     : AlarmFrame [idStale .walk, idDriveFault .walk, idWalkStall, idBrakeSlip] s t
  mode      : t.mode = s.mode
  overtakes : Overtakes s t .walk
  stale     : Taken s t (idStale .walk) false
  fault     : Taken s t (idDriveFault .walk) (fl.getLsbD 0)
  walk      : t.walk = r.1
  stalled   : r.2 = true → Taken s t idWalkStall true
  unstalled : r.2 = false → Untaken s t idWalkStall
  ended     : s.walk.session = true → r.1.session = false → Taken s t idBrakeSlip false
  going     : ¬(s.walk.session = true ∧ r.1.session = false) → Untaken s t idBrakeSlip

theorem SampleRouted.walk_taken {s v u t : State} {f : Frame} {rest : List Frame} {order : List Nat} {pos fl : Word}
    {c : CurrentStep} (routed : SampleRouted f rest order s v u t)
    (takes : u = (v.sampleEvaluated .walk (walkSampleWith pos fl) order).walkSample)
    (calm : calm s [idStale .walk, idDriveFault .walk, idWalkStall, idBrakeSlip]) (current : s.walk.current = some c)
    (moving : s.walk.state = .step ∨ s.walk.state = .setdown) :
    WalkSampleTaken pos fl rest s t (s.walk.sampled c (fl.getLsbD 0) (s.camPhase pos.toNat)
      (decide (s.phaseMax (s.camPhase pos.toNat) < since s.now (c.phaseStart.getD s.now))) s.now) := by
  have leads : Leads s (v.accepted .walk (walkSampleWith pos fl)) := routed.leads.trans (v.setAxis_own .walk _).leads
  obtain ⟨-, stale, fault⟩ := v.sampleEvaluated_evaluated .walk (walkSampleWith pos fl) order
  obtain ⟨first, walk_e⟩ := State.sampleEvaluated_calmly order leads fun i hi => calm i (by
    revert i
    decide)
  have definition (i : AlarmId) : (v.sampleEvaluated .walk (walkSampleWith pos fl) order).definition i = s.definition i :=
    (first.definition i).trans (leads.definition i)
  have sampled := State.walkSample_sampled (s := v.sampleEvaluated .walk (walkSampleWith pos fl) order) (c := c)
    (by rw [walk_e]; exact current) (by rw [walk_e]; exact moving)
    (by rw [definition]; exact calm _ (by simp)) (by rw [definition]; exact calm _ (by simp))
  have image_e : (v.sampleEvaluated .walk (walkSampleWith pos fl) order).image
      = (s.accepted .walk (walkSampleWith pos fl)).image :=
    first.image.trans (State.accepted_image routed.links .walk _)
  have store_e : (v.sampleEvaluated .walk (walkSampleWith pos fl) order).store = s.store := by
    rw [first.store, routed.links]
    rfl
  have now_e : (v.sampleEvaluated .walk (walkSampleWith pos fl) order).now = s.now := first.now.trans leads.now
  have position_e : ((v.sampleEvaluated .walk (walkSampleWith pos fl) order).axis .walk).position = pos.toNat := by
    rw [State.axis, image_e]; rfl
  have fault_e : ((v.sampleEvaluated .walk (walkSampleWith pos fl) order).axis .walk).fault = fl.getLsbD 0 := by
    rw [State.axis, image_e]; rfl
  rw [← takes, walk_e, fault_e, position_e, State.camPhase_of_store store_e, State.stalled_of_store store_e now_e,
    now_e] at sampled
  obtain ⟨second, walk, stalls, unstalled, ended, going⟩ := sampled
  rw [walk_e] at ended going
  have all : Calmly [idStale .walk, idDriveFault .walk, idWalkStall, idBrakeSlip] (v.accepted .walk (walkSampleWith pos fl)) u :=
    (first.trans second).mono (by decide)
  have image : t.image = (s.accepted .walk (walkSampleWith pos fl)).image := by
    rw [routed.image, second.image, image_e]
  have after {i : AlarmId} {b : Bool} (out : i ∉ [idStale .walk, idDriveFault .walk])
      (taken : Taken (v.sampleEvaluated .walk (walkSampleWith pos fl) order) u i b) : Taken s t i b :=
    (leads.taken (first.then_taken out taken)).of_untaken (routed.quiet i) routed.mode
  have before {i : AlarmId} {b : Bool} (out : i ∉ [idBrakeSlip, idWalkStall])
      (taken : Taken (v.accepted .walk (walkSampleWith pos fl)) (v.sampleEvaluated .walk (walkSampleWith pos fl) order) i b) :
      Taken s t i b :=
    (leads.taken (second.after_taken taken out)).of_untaken (routed.quiet i) routed.mode
  have untouched {i : AlarmId} (out : i ∉ [idStale .walk, idDriveFault .walk])
      (quiet : Untaken (v.sampleEvaluated .walk (walkSampleWith pos fl) order) u i) : Untaken s t i :=
    (((leads.untaken i).trans (first.untaken out)).trans quiet).trans (routed.quiet i)
  exact {
    own := by rw [routed.own, State.accepted_record image]; rfl
    frame := (leads.alarmFrame all.frame).then_quiet routed.frame routed.mode
      (leads.sent.trans (by rw [all.links])) routed.sent
    mode := routed.mode.trans (all.mode.trans leads.mode)
    overtakes := State.accepted_overtakes image
    stale := before (by decide) stale
    fault := before (by decide) fault
    walk := routed.walk.trans walk
    stalled := fun h => after (by decide) (stalls h)
    unstalled := fun h => untouched (by decide) (unstalled h)
    ended := fun on off => after (by decide) (ended on off)
    going := fun goes => untouched (by decide) (going goes) }

end Sys2Proof.Machine

open Sys2Proof Sys2Proof.Machine

/-- Settles O21: with the record updated and its own alarms evaluated, the step is followed as `WalkSeq.sampled` says, and
only a stall evaluates WALK_STALL. -/
theorem walkSampleMovesStep : Obligations.WalkSampleMovesStep := by
  refine ⟨⟨fun pos fl f rest upFirst order s c arrives words passes calm agrees current moving => ?moves,
    fun pos fl f rest upFirst order s arrives words passes still => ?still⟩, fun s angle => ?phases⟩
  case moves =>
    intro ph same c1 w1 done down late
    have owner := arrives.axisOfStation
    obtain ⟨working, queue, kind, -⟩ := arrives
    obtain ⟨v, u, routed⟩ := routeDFrame_fbk working queue kind upFirst order
    have taken := routed.walk_taken (routed.walk_takes owner words passes) calm current moving
    obtain ⟨own, frame, mode, overtakes, stale, fault, walk, stalled, unstalled, ended, going⟩ := taken
    have goes (sound : fl.getLsbD 0 = false) (not_done : ¬done) (not_down : ¬down) :
        s.walk.sampled c (fl.getLsbD 0) ph (decide late) s.now
          = if same ∧ late then ({ w1.endStep s.now .stalled with queue := [] }, true) else (w1, false) := by
      have goes := WalkSeq.sampled_goes (c := c) (late := decide late) (now := s.now) moving not_done not_down
      rw [sound, goes]
      simp only [decide_eq_true_eq]
      rfl
    have not_stalled (h : ¬(fl.getLsbD 0 = false ∧ ¬done ∧ ¬down ∧ same ∧ late)) :
        (s.walk.sampled c (fl.getLsbD 0) ph (decide late) s.now).2 = false := by
      cases faulted : fl.getLsbD 0 with
      | true => rfl
      | false =>
        by_cases is_done : done
        · rw [WalkSeq.sampled_done is_done.1 is_done.2.1 is_done.2.2]
        · by_cases is_down : down
          · rw [WalkSeq.sampled_down is_down.1 is_down.2]
          · have stays : ¬(same ∧ late) := fun stalls => h ⟨faulted, is_done, is_down, stalls⟩
            have r := goes faulted is_done is_down
            rw [faulted, if_neg stays] at r
            rw [r]
    refine ⟨_, rfl, own, frame, mode, overtakes, stale, fault, fun faulted => ?_, fun sound is_done => ?_,
      fun sound is_down => ?_, fun sound not_done not_down is_same is_late => ?_,
      fun sound not_done not_down stays => walk.trans ?_, fun h => unstalled (not_stalled h), ?_, ?_⟩
    · rw [faulted] at walk
      exact walk
    · rw [sound, WalkSeq.sampled_done is_done.1 is_done.2.1 is_done.2.2] at walk
      exact walk
    · rw [sound, WalkSeq.sampled_down is_down.1 is_down.2] at walk
      exact walk
    · have r := (goes sound not_done not_down).trans (if_pos ⟨is_same, is_late⟩)
      exact ⟨walk.trans (congrArg Prod.fst r), stalled (congrArg Prod.snd r)⟩
    · exact congrArg Prod.fst ((goes sound not_done not_down).trans (if_neg stays))
    · rw [walk]; exact ended
    · rw [walk]; exact going
  case phases =>
    intro a r0 r1 r2 r3
    exact State.camPhase_iff rfl rfl rfl rfl rfl r0 r1 r2 r3
  case still =>
    have owner := arrives.axisOfStation
    obtain ⟨working, queue, kind, -⟩ := arrives
    obtain ⟨v, u, routed⟩ := routeDFrame_fbk working queue kind upFirst order
    have takes := routed.walk_takes owner words passes
    have leads : Leads s (v.accepted .walk (walkSampleWith pos fl)) := routed.leads.trans (v.setAxis_own .walk _).leads
    obtain ⟨evaluated, stale, fault⟩ := v.sampleEvaluated_evaluated .walk (walkSampleWith pos fl) order
    have rests : ¬((v.sampleEvaluated .walk (walkSampleWith pos fl) order).walk.state = .step
        ∨ (v.sampleEvaluated .walk (walkSampleWith pos fl) order).walk.state = .setdown) := by
      rw [evaluated.walk, leads.walk]
      split
      · obtain e | e := still <;> simp [e]
      · exact WalkSeq.haltEntry_still still _
    rw [State.walkSample_of_still rests] at takes
    rw [← takes] at evaluated stale fault
    have image : (routeDFrame upFirst order s).image = (s.accepted .walk (walkSampleWith pos fl)).image := by
      rw [routed.image, evaluated.image]
      exact State.accepted_image routed.links .walk _
    have after := routed.after _ _ (leads.effect evaluated.effect)
    rw [routed.own, State.accepted_record image] at after
    exact ⟨_, rfl, after, State.accepted_overtakes image, (leads.taken stale).of_untaken (routed.quiet _) routed.mode,
      (leads.taken fault).of_untaken (routed.quiet _) routed.mode⟩

end

section
/-! PROOFS. The start of an operation and its walk stage: what it evaluates and leaves alone, in every state (R62 to R68,
R123). -/

namespace Sys2Proof.Machine

/-! ### The items of the walk stage (R123) -/

theorem WalkSeq.session_eq_false {w : WalkSeq} : w.session = false ↔ w.state = .idle ∧ w.queue = [] := by
  rw [Bool.eq_false_iff, ne_eq, WalkSeq.session_iff, not_or, not_not, not_not]

/-- A change of the Walk Sequencer evaluates nothing, or it ends the session and evaluates SWING_BRAKE_SLIP (R140). -/
theorem State.withWalk_acted (s : State) (w : WalkSeq) :
    Acted [] s (s.withWalk w) ∨ Acted [idBrakeSlip] s (s.withWalk w) ∧ (s.withWalk w).walk.session = false := by
  by_cases ends : (s.walk.session && !w.session) = true
  · have off : w.session = false := by
      cases h : w.session with
      | false => rfl
      | true => rw [h] at ends; simp at ends
    obtain ⟨idle, empty⟩ := WalkSeq.session_eq_false.mp off
    refine .inr ⟨(Acted.setWalk s w).trans (s.withWalk_evaluated w).toActed (by simp), ?_⟩
    rw [State.withWalk_walk_rest idle empty, off]
  · refine .inl ?_
    rw [State.withWalk, if_neg ends]
    exact .setWalk s w

/-- Item 1: only a CANCEL that ends the session evaluates anything. -/
theorem State.walkRequest_acted (s : State) (mode : Mode) (req : WalkRequest) (new : Bool) :
    Acted [] s (s.walkRequest mode req new)
      ∨ Acted [idBrakeSlip] s (s.walkRequest mode req new) ∧ (s.walkRequest mode req new).walk.session = false := by
  have step (dir : Direction) : Acted [] s (s.requestStep mode dir) := by
    simp only [State.requestStep]
    split
    · split
      · exact .setWalk _ _
      · exact .setWalk _ _
    · exact .refl s
  cases new with
  | false => exact .inl (.refl s)
  | true =>
    cases req with
    | none => exact .inl (.refl s)
    | stepFwd => exact .inl (step .forward)
    | stepRev => exact .inl (step .reverse)
    | cancel => exact s.withWalk_acted _

theorem State.leaveIdle_acted (s : State) (mode : Mode) : Acted [] s (s.leaveIdle mode) := by
  simp only [State.leaveIdle]
  split
  · exact .refl s
  · split
    · exact .setWalk _ _
    · exact .refl s

theorem State.tryStart_acted (s : State) (zone : Zone) : Acted [idBrakeSlip] s (s.tryStart zone).1 := by
  have unchanged {t : State} (h : Acted [] s t) : Acted [idBrakeSlip] s t := h.mono (by simp)
  simp only [State.tryStart]
  split
  · exact unchanged (.refl s)
  · split
    · split
      · exact unchanged (.setWalk _ _)
      · obtain none | ⟨slip, -⟩ := s.withWalk_acted (s.walk.endStep s.now .steerMoved)
        · exact unchanged none
        · exact slip
    · exact unchanged (.refl s)

/-- Items 2 and 3 find nothing to do at rest with an empty queue. -/
theorem State.leaveIdle_of_rest {s : State} (rest : s.walk.session = false) (mode : Mode) : s.leaveIdle mode = s := by
  obtain ⟨-, empty⟩ := WalkSeq.session_eq_false.mp rest
  simp only [State.leaveIdle, empty]

theorem State.tryStart_of_not_prep {s : State} (out : s.walk.state ≠ .prep) (zone : Zone) :
    s.tryStart zone = (s, none) := by
  simp only [State.tryStart]
  split
  · rfl
  · rw [if_neg fun h => out h.1]

/-- Items 1 to 3 evaluate SWING_BRAKE_SLIP once at most. -/
theorem State.walkItems_acted (s : State) (mode : Mode) (req : WalkRequest) (new : Bool) (zone : Zone) :
    Acted [idBrakeSlip] s (((s.walkRequest mode req new).leaveIdle mode).tryStart zone).1 := by
  obtain none | ⟨slip, rest⟩ := s.walkRequest_acted mode req new
  · exact none.trans ((State.leaveIdle_acted _ mode).trans (State.tryStart_acted _ zone) (by simp)) (by simp)
  · rw [State.leaveIdle_of_rest rest, State.tryStart_of_not_prep (by rw [(WalkSeq.session_eq_false.mp rest).1]; decide)]
    exact slip

/-! ### Its evaluations (R128, R129, R135) -/

/-- The IDs of the absent evaluations of a stage that ends IDLE: WALK_STEER with the queue empty and its check not
made. -/
def idleIds (idle steer : Bool) : List AlarmId :=
  if idle then (if steer then [idWalkSteer] else []) ++ [idWalkStall] else []

theorem State.idleEvaluations_ids (s : State) (steer : Option Bool) :
    (s.idleEvaluations steer).map Prod.fst
      = idleIds (decide (s.walk.state = .idle)) (steer.isNone && s.walk.queue.isEmpty) := by
  by_cases idle : s.walk.state = .idle
  · simp only [State.idleEvaluations, idleIds, idle, if_true, decide_true]
    split <;> rfl
  · simp only [State.idleEvaluations, idleIds, idle, if_false, decide_false, Bool.false_eq_true, List.map_nil]

/-- The IDs of the stage's evaluations. -/
theorem State.walkEvaluations_ids (s : State) (steer : Option Bool) :
    (s.walkEvaluations steer).map Prod.fst = idInterlockWait :: ((if steer.isNone then [] else [idWalkSteer])
      ++ idleIds (decide (s.walk.state = .idle)) (steer.isNone && s.walk.queue.isEmpty)) := by
  rw [← State.idleEvaluations_ids]
  cases steer <;> simp [State.walkEvaluations]

theorem State.walkEvaluations_nodup (s : State) (steer : Option Bool) :
    ((s.walkEvaluations steer).map Prod.fst).Nodup := by
  rw [State.walkEvaluations_ids]
  generalize steer.isNone = none, decide (s.walk.state = .idle) = idle, s.walk.queue.isEmpty = empty
  revert none idle empty
  decide

theorem State.idleEvaluations_nodup (s : State) (steer : Option Bool) :
    ((s.idleEvaluations steer).map Prod.fst).Nodup := by
  rw [State.idleEvaluations_ids]
  generalize decide (s.walk.state = .idle) = idle, (steer.isNone && s.walk.queue.isEmpty) = again
  revert idle again
  decide

/-- Each alarm of the stage is evaluated once or not at all: WALK_STALL and the absent WALK_STEER in one round only. -/
theorem State.walkEvaluate_evaluated (s : State) (steer : Option Bool) (order : List Nat) :
    Evaluated [idInterlockWait, idWalkSteer, idWalkStall] s (s.walkEvaluate steer order) := by
  obtain ⟨first, -⟩ := s.evaluateAll_arranged order (s.walkEvaluations_nodup steer)
  rw [State.walkEvaluations_ids] at first
  simp only [State.walkEvaluate]
  split
  · refine first.mono ?_
    generalize steer.isNone = none, decide (s.walk.state = .idle) = idle, s.walk.queue.isEmpty = empty
    revert none idle empty
    decide
  · rename_i active
    generalize s.evaluateAll (arrange order (s.walkEvaluations steer)) = s1 at first ⊢
    obtain ⟨second, -⟩ := s1.evaluateAll_arranged order (s1.idleEvaluations_nodup steer)
    rw [decide_eq_false active] at first
    rw [State.idleEvaluations_ids] at second
    refine (first.trans second ?_).mono ?_ <;>
    · generalize steer.isNone = none, decide (s1.walk.state = .idle) = idle, s1.walk.queue.isEmpty = empty,
        s.walk.queue.isEmpty = empty'
      revert none idle empty empty'
      decide

theorem State.walkStage_acted (s : State) (mode : Mode) (req : WalkRequest) (order : List Nat) :
    Acted walkStageIds s (s.walkStage mode req order).1 := by
  have items := s.walkItems_acted mode req (decide (req ≠ s.gov.edge)) s.gov.zone
  have evaluated := State.walkEvaluate_evaluated
    (((s.walkRequest mode req (decide (req ≠ s.gov.edge))).leaveIdle mode).tryStart s.gov.zone).1
    (((s.walkRequest mode req (decide (req ≠ s.gov.edge))).leaveIdle mode).tryStart s.gov.zone).2 order
  exact (items.trans evaluated.toActed (by decide)).mono (by decide)

/-! ### The start (R62, R66, R67) -/

/-- The operation that a start begins. -/
def State.opStarted (s : State) (x : OpInputs) (order : List Nat) : Op :=
  { stage := .rope, generated := x.generated
    hoistCommand := x.hoist, dragCommand := x.drag, swingCommand := x.swing
    profileRequest := x.profile, brakeRequest := x.brake
    mode := s.mode, derate := s.derate
    session := (s.walkStage s.mode x.walk order).1.walk.session, walkRef := (s.walkStage s.mode x.walk order).2.2
    hoistRef := 0, dragRef := 0, hoistLimited := false, dragLimited := false
    swingRef := 0, swingBrake := false, swingLimited := false }

theorem State.startOperation_eq (s : State) (x : OpInputs) (order : List Nat) :
    s.startOperation x order = (s.walkStage s.mode x.walk order).1.setGov
      { s.gov with op := some (s.opStarted x order), edge := x.walk } := by
  have gov := (s.walkStage_acted s.mode x.walk order).gov
  rw [State.startOperation, ← gov]
  rfl

/-- An operation begun in `v`, which is `s` with what its start does to the links and the Governor, and the event's end
`t`. -/
structure Began (x : OpInputs) (order : List Nat) (s v t : State) : Prop where
  op       : t.gov.op = some (v.opStarted x order)
  walk     : t.walk = (v.walkStage v.mode x.walk order).1.walk
  mode     : t.mode = (v.walkStage v.mode x.walk order).1.mode
  quiet    : ∀ i, Untaken (v.walkStage v.mode x.walk order).1 t i
  own      : t.withAlarmsOf s
    = (v.setGov { v.gov with op := some (v.opStarted x order), edge := x.walk }).withAlarmsOf s
  cycle    : t.gov.cycleTimer = v.gov.cycleTimer
  frame    : AlarmFrame walkStageIds s t
  unit     : UnitFollows s t
  sent     : s.links.u.txQueue <+: t.links.u.txQueue

theorem Leads.began {s v : State} (h : Leads s v) (x : OpInputs) (order : List Nat) :
    Began x order s v (v.startOperation x order).settle := by
  have acted := v.walkStage_acted v.mode x.walk order
  have made := v.startOperation_eq x order
  have settled := State.settle_effect (v.startOperation x order)
  have mode := State.settle_mode (v.startOperation x order)
  have frame : AlarmFrame walkStageIds s (v.startOperation x order) :=
    h.alarmFrame (acted.frame.then_same (by rw [made]; rfl) (by rw [made]; rfl))
  have links : (v.startOperation x order).links = v.links := by rw [made]; exact acted.links
  exact {
    op := by rw [State.settle_gov, made]; rfl
    walk := by rw [State.settle_walk, made]; rfl
    mode := by rw [mode, made]; rfl
    quiet := fun i => (Untaken.of_alarm (by rw [made]; rfl) i).trans (settled.alarms.untaken mode i)
    own := by
      rw [State.settle_withAlarmsOf, made, acted.only]
      rfl
    cycle := by rw [State.settle_gov, made]; rfl
    frame := frame.then_quiet settled.alarms mode (by rw [links]; exact h.sent) settled.sent
    unit := by
      have unit := settled.unit
      have same : (v.startOperation x order).mgmt.unit = s.mgmt.unit := by
        rw [made, State.setGov_mgmt, acted.mgmt, h.unit]
      rwa [UnitFollows, same] at unit
    sent := (h.sent.trans (by rw [links])).trans settled.sent }

/-- REFERENCE_OPERATION takes the REF that waits (R62). -/
theorem referenceOperation_began {s : State} {f : Frame} (starts : RefStarts s f) (order : List Nat) :
    Began (inputsOfRef f.words) order s (s.setLinks { s.links with waitingRef := none }) (referenceOperation order s) := by
  obtain ⟨working, free, none, waits⟩ := starts
  have made : referenceOperation order s
      = ((s.setLinks { s.links with waitingRef := .none }).startOperation (inputsOfRef f.words) order).settle := by
    rw [referenceOperation, State.atWork_of_working working]
    simp only [free, waits, none, Bool.false_eq_true, if_false]
  rw [made]
  exact (Leads.setLinks (by rfl)).began _ order

/-- Commands are saturated (R171). -/
theorem saturate_eq (w : Word) :
    saturate w = if 1000 < w.toInt then 1000 else if w.toInt < -1000 then -1000 else w.toInt := by
  unfold saturate
  split
  · omega
  · split <;> omega

/-- The walk requests (R62). -/
theorem walkRequestOf_eq (q : Word) :
    walkRequestOf q = if q = 1 then .stepFwd else if q = 2 then .stepRev else if q = 3 then .cancel else .none := by
  by_cases h1 : q = 1
  · subst h1; rfl
  by_cases h2 : q = 2
  · subst h2; rfl
  by_cases h3 : q = 3
  · subst h3; rfl
  rw [if_neg h1, if_neg h2, if_neg h3, walkRequestOf]
  split
  · rename_i e; exact absurd (BitVec.eq_of_toNat_eq e) h1
  · rename_i e; exact absurd (BitVec.eq_of_toNat_eq e) h2
  · rename_i e; exact absurd (BitVec.eq_of_toNat_eq e) h3
  · rfl

end Sys2Proof.Machine

open Sys2Proof Sys2Proof.Machine

/-- Settles O31: the stage evaluates each of its alarms once at most and changes the Walk Sequencer alone, so that what the
operation read stands. -/
theorem referenceOperationStarts : Obligations.ReferenceOperationStarts := by
  intro h d w q p o f order s starts words
  have began := referenceOperation_began starts order
  rw [words] at began
  obtain ⟨-, walk, -, -, own, -, frame, unit, sent⟩ := began
  refine ⟨_, (s.setLinks { s.links with waitingRef := none }).opStarted (inputsOfRef [h, d, w, q, p, o]) order,
    rfl, rfl, rfl, saturate_eq h, saturate_eq d, saturate_eq w, rfl, rfl, rfl, rfl,
    congrArg WalkSeq.session walk.symm, ?_, frame, unit, sent⟩
  rw [own, ← walkRequestOf_eq]
  rfl

end

section
/-! PROOFS. The walk stage where no raise can enter a STOP entry: its Walk Sequencer, its evaluations and the walk reference
(R121 to R130, R135, R140). -/

namespace Sys2Proof.Machine

/-! ### One change of the Walk Sequencer after another (R140) -/

theorem Walked.of_setWalk {s : State} {w : WalkSeq} (session : s.walk.session = true → w.session = true) :
    Walked s (s.setWalk w) w :=
  ⟨(Calmly.setWalk s w).mono (by simp), rfl, fun on off => absurd (session on) (by simp [off]),
    fun _ => (Calmly.setWalk s w).untaken (by simp)⟩

theorem Walked.refl (s : State) : Walked s s s.walk :=
  ⟨(Calmly.refl s).mono (by simp), rfl, fun on off => absurd on (by simp [off]), fun _ => .refl s _⟩

/-- SWING_BRAKE_SLIP is evaluated once at most: the session ends once, and is not opened and ended again. -/
theorem Walked.trans {s t u : State} {w w' : WalkSeq} (h : Walked s t w) (k : Walked t u w')
    (once : s.walk.session = w.session ∨ w.session = w'.session) (stays : s.walk.session = true → w.session = false →
      w'.session = false) : Walked s u w' := by
  obtain ⟨calmly, walk, ended, going⟩ := h
  obtain ⟨calmly', walk', ended', going'⟩ := k
  rw [walk] at ended' going'
  refine ⟨(calmly.trans calmly').mono (by simp), walk', fun on off => ?_, fun goes => ?_⟩
  · cases between : w.session with
    | false => exact (ended on between).of_untaken (going' (by simp [between])) calmly'.mode
    | true =>
      have same := going (by simp [between])
      exact SameReading.taken ⟨same, calmly.now, calmly.definition _⟩ (ended' between off)
  · refine (going fun ⟨on, off⟩ => goes ⟨on, stays on off⟩).trans (going' fun ⟨on, off⟩ => ?_)
    obtain same | same := once
    · exact goes ⟨same.trans on, off⟩
    · rw [same, off] at on; cases on

/-! ### The head record taken (R126) -/

theorem headTaken_of_still {s : State} {w : WalkSeq} (still : w.state ≠ .idle ∨ w.queue = [] ∨ s.mode ≠ .run) :
    headTaken s w = w := by
  rw [headTaken]
  split
  · rfl
  · rename_i r rest front
    rw [if_neg]
    rintro ⟨idle, run⟩
    obtain active | empty | out := still
    · exact active idle
    · rw [front] at empty; cases empty
    · exact out run

theorem headTaken_of_front {s : State} {w : WalkSeq} {r : StepRecord} {rest : List StepRecord} (front : w.queue = r :: rest)
    (idle : w.state = .idle) (run : s.mode = .run) :
    headTaken s w = { w with state := .prep, queue := rest, current := some ⟨r, s.now, none, none, 0, 0, 0, 0, none⟩ } := by
  simp only [headTaken, front, if_pos (show w.state = .idle ∧ s.mode = .run from ⟨idle, run⟩)]

theorem headTaken_cases (s : State) (w : WalkSeq) : headTaken s w = w ∨ ∃ r rest, w.queue = r :: rest ∧ w.state = .idle
    ∧ headTaken s w = { w with state := .prep, queue := rest, current := some ⟨r, s.now, none, none, 0, 0, 0, 0, none⟩ } := by
  by_cases idle : w.state = .idle ∧ s.mode = .run
  · cases front : w.queue with
    | nil => exact .inl (headTaken_of_still (.inr (.inl front)))
    | cons r rest => exact .inr ⟨r, rest, rfl, idle.1, headTaken_of_front front idle.1 idle.2⟩
  · refine .inl (headTaken_of_still ?_)
    rw [not_and_or] at idle
    exact idle.imp_right .inr

theorem headTaken_session (s : State) (w : WalkSeq) : (headTaken s w).session = w.session := by
  obtain same | ⟨r, rest, front, -, taken⟩ := headTaken_cases s w
  · rw [same]
  · rw [taken, Bool.eq_iff_iff, WalkSeq.session_iff, WalkSeq.session_iff, front]
    simp

theorem headTaken_agrees {s : State} {w : WalkSeq} (agrees : stepAgrees w.state w.current) :
    stepAgrees (headTaken s w).state (headTaken s w).current := by
  obtain same | ⟨r, rest, -, -, taken⟩ := headTaken_cases s w
  · rwa [same]
  · rw [taken]
    exact ⟨_, rfl, rfl, rfl, rfl⟩

theorem State.leaveIdle_eq {v s1 : State} (now : s1.now = v.now) :
    s1.leaveIdle v.mode = s1.setWalk (headTaken v s1.walk) := by
  cases front : s1.walk.queue with
  | nil =>
    rw [headTaken_of_still (.inr (.inl front))]
    simp only [State.leaveIdle, front]
    rfl
  | cons r rest =>
    by_cases takes : s1.walk.state = .idle ∧ v.mode = .run
    · rw [headTaken_of_front front takes.1 takes.2, ← now]
      simp only [State.leaveIdle, front, if_pos takes]
    · have still : headTaken v s1.walk = s1.walk :=
        headTaken_of_still ((not_and_or.mp takes).imp_right .inr)
      rw [still]
      simp only [State.leaveIdle, front, if_neg takes]
      rfl

/-! ### The start of a step (R127, R128) -/

theorem State.interlocksHold_iff (s : State) : s.interlocksHold s.gov.zone = true ↔ InterlocksMet s := by
  simp only [State.interlocksHold, Bool.and_eq_true, decide_eq_true_eq, AxisRecord.isFresh_iff, Bool.not_eq_true',
    and_assoc]
  rfl

theorem State.interlocksHold_of_same {s t : State} (store : t.store = s.store) (image : t.image = s.image) (zone : Zone) :
    t.interlocksHold zone = s.interlocksHold zone := by
  obtain ⟨⟩ := s
  obtain ⟨⟩ := t
  subst store image
  rfl

/-- The Walk Sequencer after the start is tried, and the evaluation of WALK_STEER the try makes. -/
def State.tried (v : State) (h : WalkSeq) : WalkSeq × Option Bool :=
  match h.current with
  | none => (h, none)
  | some c =>
    if h.state = .prep ∧ v.interlocksHold v.gov.zone then
      if circularDistance v.image.swing.position c.record.steer ≤ v.walkField walkSteerTolerance then
        ({ h with
          state := .step
          current := some { c with phase := some (v.camPhase v.image.walk.position), phaseStart := some v.now } }, some false)
      else (h.endStep v.now .steerMoved, some true)
    else (h, none)

/-- What the try reads, it reads as the stage began. -/
theorem State.tryStart_eq {v s2 : State} (store : s2.store = v.store) (image : s2.image = v.image) :
    s2.tryStart v.gov.zone =
      (if (v.tried s2.walk).2 = some true then s2.withWalk (v.tried s2.walk).1 else s2.setWalk (v.tried s2.walk).1,
        (v.tried s2.walk).2) := by
  have now : s2.now = v.now := congrArg Image.timeBase image
  cases current : s2.walk.current with
  | none =>
    simp only [State.tryStart, State.tried, current]
    rfl
  | some c =>
    simp only [State.tryStart, State.tried, current, State.interlocksHold_of_same store image, State.axis, image,
      State.walkField_of_store store, State.camPhase_of_store store, now]
    by_cases tries : s2.walk.state = .prep ∧ v.interlocksHold v.gov.zone = true
    · simp only [if_pos tries]
      show (if circularDistance v.image.swing.position c.record.steer ≤ v.walkField walkSteerTolerance then _ else _) = _
      by_cases near : circularDistance v.image.swing.position c.record.steer ≤ v.walkField walkSteerTolerance
      · simp only [if_pos near]
        rfl
      · simp only [if_neg near]
        rfl
    · simp only [if_neg tries]
      rfl

/-- Without a try the Walk Sequencer stands. -/
theorem State.tried_waits {v : State} {h : WalkSeq} (waits : ¬(h.state = .prep ∧ InterlocksMet v)) :
    v.tried h = (h, none) := by
  rw [State.tried]
  split
  · rfl
  · rw [if_neg (by rwa [State.interlocksHold_iff])]

theorem State.tried_starts {v : State} {h : WalkSeq} {c : CurrentStep} (tries : h.state = .prep ∧ InterlocksMet v)
    (current : h.current = some c) (near : steerNear v c) :
    v.tried h = ({ h with
      state := .step
      current := some { c with phase := some (v.camPhase v.image.walk.position), phaseStart := some v.now } }, some false) := by
  rw [← State.interlocksHold_iff] at tries
  simp only [State.tried, current, if_pos tries]
  exact if_pos near

theorem State.tried_moved {v : State} {h : WalkSeq} {c : CurrentStep} (tries : h.state = .prep ∧ InterlocksMet v)
    (current : h.current = some c) (far : ¬steerNear v c) : v.tried h = (h.endStep v.now .steerMoved, some true) := by
  rw [← State.interlocksHold_iff] at tries
  simp only [State.tried, current, if_pos tries]
  exact if_neg far

/-- The three outcomes of a try. -/
theorem State.tried_cases (v : State) (h : WalkSeq) (agrees : stepAgrees h.state h.current) :
    ¬(h.state = .prep ∧ InterlocksMet v) ∧ v.tried h = (h, none)
    ∨ ∃ c, (h.state = .prep ∧ InterlocksMet v) ∧ h.current = some c ∧ (steerNear v c ∧ v.tried h = ({ h with
          state := .step
          current := some { c with phase := some (v.camPhase v.image.walk.position), phaseStart := some v.now } }, some false)
        ∨ ¬steerNear v c ∧ v.tried h = (h.endStep v.now .steerMoved, some true)) := by
  by_cases tries : h.state = .prep ∧ InterlocksMet v
  · have prep := tries.1
    rw [prep] at agrees
    obtain ⟨c, current, -⟩ := agrees
    refine .inr ⟨c, tries, current, ?_⟩
    by_cases near : steerNear v c
    · exact .inl ⟨near, State.tried_starts tries current near⟩
    · exact .inr ⟨near, State.tried_moved tries current near⟩
  · exact .inl ⟨tries, State.tried_waits tries⟩

theorem State.tried_agrees {v : State} {h : WalkSeq} (agrees : stepAgrees h.state h.current) :
    stepAgrees (v.tried h).1.state (v.tried h).1.current := by
  obtain ⟨-, e⟩ | ⟨c, ⟨prep, -⟩, current, ⟨-, e⟩ | ⟨-, e⟩⟩ := v.tried_cases h agrees
  · rwa [e]
  · rw [prep, current] at agrees
    obtain ⟨x, ⟨⟩, -, -, cause⟩ := agrees
    rw [e]
    exact ⟨_, _, rfl, rfl, by simp, cause⟩
  · obtain ⟨idle, none⟩ := stepAgrees_endStep v.now .steerMoved (stepAgrees_none agrees)
    rw [e, idle]
    exact none

/-- A try opens no session, and one that does not find the house moved ends none. -/
theorem State.tried_session {v : State} {h : WalkSeq} (agrees : stepAgrees h.state h.current) :
    ((v.tried h).1.session = true → h.session = true) ∧ ((v.tried h).2 ≠ some true → (v.tried h).1.session = h.session) := by
  obtain ⟨-, e⟩ | ⟨c, ⟨prep, -⟩, current, ⟨-, e⟩ | ⟨-, e⟩⟩ := v.tried_cases h agrees
  · rw [e]; exact ⟨id, fun _ => rfl⟩
  · have active : h.session = true := (WalkSeq.session_iff h).mpr (.inl (by rw [prep]; decide))
    have active' : (v.tried h).1.session = true := (WalkSeq.session_iff _).mpr (.inl (by rw [e]; exact nofun))
    exact ⟨fun _ => active, fun _ => active'.trans active.symm⟩
  · rw [e]
    exact ⟨WalkSeq.endStep_session, fun h => absurd rfl h⟩

/-- Items 2 and 3 after a request that left the Walk Sequencer `w`. -/
structure Tried (v s3 : State) (w : WalkSeq) (steer : Option Bool) : Prop where
  walked : Walked v s3 (v.tried (headTaken v w)).1
  steer  : steer = (v.tried (headTaken v w)).2

theorem Walked.tried {v s1 : State} {w : WalkSeq} (h : Walked v s1 w) (calm : (v.definition idBrakeSlip).severity ≠ .stop)
    (agrees : stepAgrees w.state w.current)
    (opened : v.walk.session = false → w.session = true → ∀ c, (headTaken v w).current = some c → steerNear v c) :
    Tried v ((s1.leaveIdle v.mode).tryStart v.gov.zone).1 w ((s1.leaveIdle v.mode).tryStart v.gov.zone).2 := by
  obtain ⟨calmly, walk, -⟩ := id h
  have agrees := headTaken_agrees (s := v) agrees
  obtain ⟨session, kept⟩ := State.tried_session (v := v) agrees
  have head := headTaken_session v w
  rw [State.leaveIdle_eq calmly.now, walk,
    State.tryStart_eq (v := v) (s2 := s1.setWalk (headTaken v w)) calmly.store calmly.image]
  refine ⟨?_, rfl⟩
  have taken : Walked v (s1.setWalk (headTaken v w)) (headTaken v w) :=
    h.trans (.of_setWalk fun on => by rw [head, ← walk]; exact on) (.inr head.symm) fun _ off => head.trans off
  show Walked v (if (v.tried (headTaken v w)).2 = some true then _ else _) _
  split
  · rename_i moved
    refine taken.trans (State.withWalk_walked (by
      rw [taken.calmly.definition]; exact calm) _) ?_ fun _ off => ?_
    · left
      by_contra differs
      obtain ⟨-, e⟩ | ⟨c, tries, current, ⟨-, e⟩ | ⟨far, e⟩⟩ := v.tried_cases _ agrees
      · rw [e] at moved; cases moved
      · rw [e] at moved; cases moved
      · have active : (headTaken v w).session = true := (WalkSeq.session_iff _).mpr (.inl (by rw [tries.1]; decide))
        have off : v.walk.session = false := by
          rw [active] at differs
          exact Bool.eq_false_iff.mpr differs
        exact far (opened off (head.symm.trans active) c current)
    · exact Bool.eq_false_iff.mpr fun on => by rw [session on] at off; cases off
  · rename_i still
    exact taken.trans (.of_setWalk fun on => (kept still).trans on) (.inr (kept still).symm) fun _ off => (kept still).trans off

/-! ### The evaluations (R128, R129, R135) -/

theorem State.mem_idleEvaluations {s : State} {steer : Option Bool} :
    (s.walk.state = .idle → (idWalkStall, false) ∈ s.idleEvaluations steer)
    ∧ (s.walk.state = .idle → steer = none → s.walk.queue = [] → (idWalkSteer, false) ∈ s.idleEvaluations steer) := by
  refine ⟨fun idle => by simp [State.idleEvaluations, idle], fun idle none empty => ?_⟩
  simp [State.idleEvaluations, idle, none, empty]

/-- The stage's evaluations where none enters HALT: one round, on the Walk Sequencer that items 1 to 3 left. -/
theorem State.walkEvaluate_calmly {s : State} (calm : calm s walkStageIds) (steer : Option Bool) (order : List Nat) :
    Calmly ((s.walkEvaluations steer).map Prod.fst) s (s.walkEvaluate steer order)
      ∧ (∀ i b, (i, b) ∈ s.walkEvaluations steer → Taken s (s.walkEvaluate steer order) i b)
      ∧ (s.walkEvaluate steer order).walk = s.walk := by
  have bound : ∀ i ∈ (s.walkEvaluations steer).map Prod.fst, i ∈ walkStageIds := by
    rw [State.walkEvaluations_ids]
    generalize steer.isNone = none, decide (s.walk.state = .idle) = idle, s.walk.queue.isEmpty = empty
    revert none idle empty
    decide
  have first := State.evaluateAll_calmly (s := s) order (s.walkEvaluations_nodup steer)
    fun e he => calm e.1 (bound _ (List.mem_map_of_mem he))
  have same : s.walkEvaluate steer order = s.evaluateAll (arrange order (s.walkEvaluations steer)) := by
    simp only [State.walkEvaluate]
    split
    · rfl
    · rename_i active
      have nothing : (s.evaluateAll (arrange order (s.walkEvaluations steer))).idleEvaluations steer = [] := by
        rw [State.idleEvaluations, if_neg]
        rw [first.2.2]
        exact active
      have perm := arrange_perm order ((s.evaluateAll (arrange order (s.walkEvaluations steer))).idleEvaluations steer)
        (by rw [nothing]; exact .nil)
      rw [nothing] at perm
      rw [nothing, perm.eq_nil]
      rfl
  rw [same]
  exact first

/-! ### The whole stage -/

theorem StageGoesOn.of_tried {v s3 : State} {w : WalkSeq} {steer : Option Bool} (h : Tried v s3 w steer)
    (calm : calm v walkStageIds) (agrees : stepAgrees w.state w.current) (order : List Nat) :
    StageGoesOn v (s3.walkEvaluate steer order) w := by
  obtain ⟨⟨calmly, walk3, ended, going⟩, rfl⟩ := h
  have agrees := headTaken_agrees (s := v) agrees
  obtain ⟨later, taken3, same⟩ := State.walkEvaluate_calmly (s := s3)
    (fun i hi => by rw [calmly.definition]; exact calm i hi) (v.tried (headTaken v w)).2 order
  generalize s3.walkEvaluate (v.tried (headTaken v w)).2 order = t at later taken3 same ⊢
  have walk : t.walk = (v.tried (headTaken v w)).1 := same.trans walk3
  have taken {i : AlarmId} {b : Bool} (out : i ∉ [idBrakeSlip]) (mem : (i, b) ∈ s3.walkEvaluations (v.tried (headTaken v w)).2) :
      Taken v t i b := calmly.then_taken out (taken3 i b mem)
  have untaken {i : AlarmId} (out : i ∉ [idBrakeSlip])
      (not : i ∉ (s3.walkEvaluations (v.tried (headTaken v w)).2).map Prod.fst) : Untaken v t i :=
    (calmly.untaken out).trans (later.untaken not)
  have brake : idBrakeSlip ∉ (s3.walkEvaluations (v.tried (headTaken v w)).2).map Prod.fst := by
    rw [State.walkEvaluations_ids]
    generalize (v.tried (headTaken v w)).2.isNone = none, decide (s3.walk.state = .idle) = idle, s3.walk.queue.isEmpty = empty
    revert none idle empty
    decide
  have ids := State.walkEvaluations_ids s3 (v.tried (headTaken v w)).2
  have wait : Taken v t idInterlockWait s3.interlockWait := taken (by decide) (List.mem_cons_self ..)
  have checked {b : Bool} (check : (v.tried (headTaken v w)).2 = some b) : Taken v t idWalkSteer b :=
    taken (by decide) (by simp [State.walkEvaluations, check])
  have resting {i : AlarmId} (out : i ∉ [idBrakeSlip]) (mem : (i, false) ∈ s3.idleEvaluations (v.tried (headTaken v w)).2) :
      Taken v t i false := taken out (List.mem_append_right _ mem)
  rw [← same] at walk3
  exact {
    mode := later.mode.trans calmly.mode
    waits := fun waits => by rw [walk, State.tried_waits waits]
    starts := fun c tries current near => by
      have e := State.tried_starts tries current near
      exact ⟨by rw [walk, e], checked (by rw [e])⟩
    moved := fun c tries current far => by
      have e := State.tried_moved tries current far
      exact ⟨by rw [walk, e], checked (by rw [e])⟩
    cleared := fun waits idle empty => resting (by decide)
      (State.mem_idleEvaluations.2 (by rw [← same]; exact idle) (by rw [State.tried_waits waits]) (by rw [← same]; exact empty))
    unchecked := fun waits active => untaken (by decide) (by
      rw [ids, State.tried_waits waits, ← same]
      by_cases idle : t.walk.state = .idle
      · have queued : t.walk.queue.isEmpty = false := by
          rw [List.isEmpty_eq_false_iff]
          exact fun empty => active ⟨idle, empty⟩
        rw [idle, queued]
        show idWalkSteer ∉ [idInterlockWait, idWalkStall]
        decide
      · rw [decide_eq_false idle]
        show idWalkSteer ∉ [idInterlockWait]
        decide)
    prep := fun c prep current => by
      have value : s3.interlockWait = decide (v.walkField walkPrepTimeout < since v.now c.start) := by
        simp only [State.interlockWait, ← same, current, prep, decide_true, Bool.true_and,
          State.walkField_of_store calmly.store, calmly.now]
      rwa [value] at wait
    notPrep := fun out => by
      have value : s3.interlockWait = false := by
        simp only [State.interlockWait, ← same]
        split
        · rfl
        · rw [decide_eq_false out, Bool.false_and]
      rwa [value] at wait
    idle := fun idle => resting (by decide) (State.mem_idleEvaluations.1 (by rw [← same]; exact idle))
    notIdle := fun active => untaken (by decide) (by
      rw [ids, ← same, decide_eq_false active]
      generalize (v.tried (headTaken v w)).2.isNone = none, t.walk.queue.isEmpty = empty
      revert none empty
      decide)
    ended := fun on off => (ended on (by rw [← walk]; exact off)).of_untaken (later.untaken brake) later.mode
    going := fun goes => (going (by rw [← walk]; exact goes)).trans (later.untaken brake) }

end Sys2Proof.Machine
end

section
/-! PROOFS. What each request does to the Walk Sequencer, and the walk stage of a REF's operation (R121 to R130, R135, R140). -/

namespace Sys2Proof.Machine

/-! ### Item 1: the request (R123 to R125) -/

/-- The Walk Sequencer after a step request (R124). -/
def State.stepRequested (s : State) (dir : Direction) : WalkSeq :=
  if s.mode = .run ∧ s.pageValid .walk = true ∧ s.image.swing.state = .fresh then
    if s.walk.queue.length < 8 then
      { s.walk with
        queue := s.walk.queue ++ [⟨dir, s.image.swing.position, s.now⟩]
        lockAngle := if s.walk.session then s.walk.lockAngle else some s.image.swing.position }
    else { s.walk with queueFull := bump s.walk.queueFull }
  else s.walk

/-- The Walk Sequencer after item 1; a request that is not new asks for nothing. -/
def State.requested (s : State) (req : WalkRequest) (new : Bool) : WalkSeq :=
  match new, req with
  | true, .stepFwd => s.stepRequested .forward
  | true, .stepRev => s.stepRequested .reverse
  | true, .cancel => s.walk.cancel s.now
  | _, _ => s.walk

theorem State.requestStep_eq (s : State) (dir : Direction) : s.requestStep s.mode dir = s.setWalk (s.stepRequested dir) := by
  have fits : (s.mode = .run ∧ s.pageValid .walk = true ∧ (s.axis .swing).isFresh = true)
      ↔ s.mode = .run ∧ s.pageValid .walk = true ∧ s.image.swing.state = .fresh := by
    rw [AxisRecord.isFresh_iff]
    rfl
  by_cases fit : s.mode = .run ∧ s.pageValid .walk = true ∧ s.image.swing.state = .fresh
  · by_cases room : s.walk.queue.length < 8
    · have room' : s.walk.queue.length < Config.stepCapacity := room
      simp only [State.requestStep, State.stepRequested, if_pos fit, if_pos (fits.mpr fit), if_pos room, if_pos room']
      rfl
    · have full : ¬s.walk.queue.length < Config.stepCapacity := room
      simp only [State.requestStep, State.stepRequested, if_pos fit, if_pos (fits.mpr fit), if_neg room, if_neg full]
  · simp only [State.requestStep, State.stepRequested, if_neg fit, if_neg (mt fits.mp fit)]
    rfl

theorem State.stepRequested_session {s : State} {dir : Direction} (on : s.walk.session = true) :
    (s.stepRequested dir).session = true := by
  rw [State.stepRequested]
  rw [WalkSeq.session_iff] at on
  split
  · split
    · exact (WalkSeq.session_iff _).mpr (.inr (by simp))
    · exact (WalkSeq.session_iff _).mpr on
  · exact (WalkSeq.session_iff _).mpr on

theorem State.walkRequest_walked {s : State} (calm : (s.definition idBrakeSlip).severity ≠ .stop) (req : WalkRequest)
    (new : Bool) : Walked s (s.walkRequest s.mode req new) (s.requested req new) := by
  have step (dir : Direction) : Walked s (s.requestStep s.mode dir) (s.stepRequested dir) := by
    rw [State.requestStep_eq]
    exact .of_setWalk State.stepRequested_session
  cases new with
  | false => exact .refl s
  | true =>
    cases req with
    | none => exact .refl s
    | stepFwd => exact step .forward
    | stepRev => exact step .reverse
    | cancel => exact State.withWalk_walked calm _

/-- What a CANCEL leaves, by the state and the phase (R125). -/
theorem WalkSeq.cancel_cases {w : WalkSeq} (agrees : stepAgrees w.state w.current) (now : Time) :
    (w.state = .idle ∨ w.state = .setdown) ∧ w.cancel now = w.emptied
    ∨ w.state = .prep ∧ w.cancel now = w.emptied.endStep now .cancelled
    ∨ ∃ c, w.state = .step ∧ w.current = some c ∧
        ((c.phase = some .rest ∨ c.phase = some .p1) ∧ w.cancel now = w.emptied.endStep now .cancelled
        ∨ (c.phase = some .p2 ∨ c.phase = some .p3) ∧ c.phaseStart ≠ none
          ∧ w.cancel now = { w.emptied with state := .setdown, current := some { c with cause := some .cancelled } }
        ∨ c.phase = some .p4 ∧ w.cancel now = w.emptied) := by
  obtain ⟨state, current, queue, lockAngle, queueFull, history⟩ := w
  cases state with
  | idle => exact .inl ⟨.inl rfl, rfl⟩
  | setdown => exact .inl ⟨.inr rfl, rfl⟩
  | prep => exact .inr (.inl ⟨rfl, rfl⟩)
  | step =>
    obtain ⟨c, ph, rfl, phase, start, -⟩ := (agrees : stepAgrees .step current)
    obtain ⟨record, began, _, phaseStart, p1, p2, p3, p4, cause⟩ := c
    cases phase
    refine .inr (.inr ⟨_, rfl, rfl, ?_⟩)
    cases ph with
    | rest => exact .inl ⟨.inl rfl, rfl⟩
    | p1 => exact .inl ⟨.inr rfl, rfl⟩
    | p2 => exact .inr (.inl ⟨.inl rfl, start, rfl⟩)
    | p3 => exact .inr (.inl ⟨.inr rfl, start, rfl⟩)
    | p4 => exact .inr (.inr ⟨rfl, rfl⟩)

theorem WalkSeq.cancel_agrees {w : WalkSeq} (agrees : stepAgrees w.state w.current) (now : Time) :
    stepAgrees (w.cancel now).state (w.cancel now).current := by
  have ends : stepAgrees (w.emptied.endStep now .cancelled).state (w.emptied.endStep now .cancelled).current := by
    obtain ⟨idle, none⟩ := stepAgrees_endStep (w := w.emptied) now .cancelled (stepAgrees_none agrees)
    rw [idle]
    exact none
  obtain ⟨-, e⟩ | ⟨-, e⟩ | ⟨c, -, -, ⟨-, e⟩ | ⟨phase, start, e⟩ | ⟨-, e⟩⟩ := WalkSeq.cancel_cases agrees now
  · rw [e]; exact agrees
  · rw [e]; exact ends
  · rw [e]; exact ends
  · rw [e]
    exact ⟨_, rfl, phase.imp_right .inl, start, by simp⟩
  · rw [e]; exact agrees

/-- After a CANCEL no record waits and no step is in PREP. -/
theorem WalkSeq.cancel_rest {w : WalkSeq} (agrees : stepAgrees w.state w.current) (now : Time) :
    (w.cancel now).queue = [] ∧ (w.cancel now).state ≠ .prep := by
  have ends : (w.emptied.endStep now .cancelled).queue = [] ∧ (w.emptied.endStep now .cancelled).state ≠ .prep := by
    obtain ⟨idle, -⟩ := stepAgrees_endStep (w := w.emptied) now .cancelled (stepAgrees_none agrees)
    rw [idle, WalkSeq.emptied, WalkSeq.endStep_queue]
    exact ⟨rfl, nofun⟩
  obtain ⟨state, e⟩ | ⟨-, e⟩ | ⟨c, state, -, ⟨-, e⟩ | ⟨-, -, e⟩ | ⟨-, e⟩⟩ := WalkSeq.cancel_cases agrees now
  · rw [e]
    exact ⟨rfl, fun prep => by obtain h | h := state <;> cases h.symm.trans prep⟩
  · rw [e]; exact ends
  · rw [e]; exact ends
  · rw [e]; exact ⟨rfl, nofun⟩
  · rw [e]; exact ⟨rfl, fun prep => by cases state.symm.trans prep⟩

theorem State.requested_agrees {s : State} (agrees : stepAgrees s.walk.state s.walk.current) (req : WalkRequest) (new : Bool) :
    stepAgrees (s.requested req new).state (s.requested req new).current := by
  have step (dir : Direction) : stepAgrees (s.stepRequested dir).state (s.stepRequested dir).current := by
    rw [State.stepRequested]
    split
    · split <;> exact agrees
    · exact agrees
  cases new with
  | false => exact agrees
  | true =>
    cases req with
    | none => exact agrees
    | stepFwd => exact step .forward
    | stepRev => exact step .reverse
    | cancel => exact WalkSeq.cancel_agrees agrees s.now

theorem angleSub_self (a : Nat) : angleSub a a = 0 := by
  unfold angleSub
  omega

/-- A session that a request opens finds the house where its record was made. -/
theorem State.stepRequested_opened {s : State} {dir : Direction} (off : s.walk.session = false)
    (on : (s.stepRequested dir).session = true) {c : CurrentStep}
    (current : (headTaken s (s.stepRequested dir)).current = some c) : steerNear s c := by
  obtain ⟨idle, empty⟩ := WalkSeq.session_eq_false.mp off
  by_cases fit : s.mode = .run ∧ s.pageValid .walk = true ∧ s.image.swing.state = .fresh
  · have room : s.walk.queue.length < 8 := by rw [empty]; decide
    have front : (s.stepRequested dir).queue = [⟨dir, s.image.swing.position, s.now⟩] := by
      rw [State.stepRequested, if_pos fit, if_pos room, empty]
      rfl
    have still : (s.stepRequested dir).state = .idle := by
      rw [State.stepRequested, if_pos fit, if_pos room]
      exact idle
    rw [headTaken_of_front front still fit.1] at current
    cases current
    rw [steerNear, angleSub_self, Nat.min_self]
    exact Nat.zero_le _
  · rw [State.stepRequested, if_neg fit, off] at on
    cases on

theorem State.requested_opened {s : State} {req : WalkRequest} {new : Bool}
    (off : s.walk.session = false) (on : (s.requested req new).session = true) :
    ∀ c, (headTaken s (s.requested req new)).current = some c → steerNear s c := by
  intro c current
  cases new with
  | false => exact absurd (off.symm.trans on) (by decide)
  | true =>
    cases req with
    | none => exact absurd (off.symm.trans on) (by decide)
    | stepFwd => exact State.stepRequested_opened off on current
    | stepRev => exact State.stepRequested_opened off on current
    | cancel =>
      obtain ⟨idle, empty⟩ := WalkSeq.session_eq_false.mp off
      have same : (s.requested .cancel true).session = s.walk.session := by
        have e : s.requested .cancel true = s.walk.emptied := by
          simp only [State.requested, WalkSeq.cancel, WalkSeq.emptied, idle]
        rw [e, off]
        exact WalkSeq.session_eq_false.mpr ⟨idle, rfl⟩
      rw [same, off] at on
      cases on

/-! ### The walk reference (R130) -/

theorem signedBy_eq (dir : Direction) (n : Nat) : signedBy dir n = (if dir = .forward then 1 else -1) * n := by
  cases dir <;> simp [signedBy]

theorem State.phaseSpeed_eq {s t : State} (store : t.store = s.store) (dir : Direction) (ph : CamPhase) :
    t.phaseSpeed dir ph = speedOf s dir ph := by
  cases ph <;> cases dir <;> simp [State.phaseSpeed, speedOf, State.walkField_of_store store]

theorem State.walkTarget_still {s : State} (still : s.walk.state = .idle ∨ s.walk.state = .prep) : s.walkTarget = 0 := by
  rw [State.walkTarget]
  split
  · rfl
  · obtain state | state := still <;> rw [state] <;> exact ite_self 0

theorem State.walkTarget_step {s : State} {c : CurrentStep} {ph : CamPhase} (valid : s.pageValid .walk = true)
    (step : s.walk.state = .step) (current : s.walk.current = some c) (phase : c.phase = some ph) :
    s.walkTarget = signedBy c.record.direction (s.phaseSpeed c.record.direction ph) := by
  simp only [State.walkTarget, current, valid, step, phase, Bool.not_true, Bool.false_eq_true, if_false]

theorem State.walkTarget_setdown {s : State} {c : CurrentStep} (valid : s.pageValid .walk = true)
    (setdown : s.walk.state = .setdown) (current : s.walk.current = some c) :
    s.walkTarget = signedBy c.record.direction (s.walkField walkCrawl) := by
  simp only [State.walkTarget, current, valid, setdown, Bool.not_true, Bool.false_eq_true, if_false]

theorem WalkReferenceFormed.of_stage {v s3 t : State} (store : s3.store = v.store) (gov : s3.gov = v.gov)
    (walk : t.walk = s3.walk) (agrees : stepAgrees t.walk.state t.walk.current) :
    WalkReferenceFormed v t s3.walkReference := by
  have formed : s3.walkReference = if v.pageValid .walk then slewFrom v.gov.baseWalk s3.walkTarget (v.walkField walkSlew)
      else 0 := by
    rw [State.walkReference, State.pageValid_of_store store, gov, State.walkField_of_store store]
  rw [formed]
  cases valid : v.pageValid .walk with
  | false => exact ⟨fun _ => rfl, fun h => absurd (valid.symm.trans h) (by decide), fun h => absurd rfl h⟩
  | true =>
    have valid3 : s3.pageValid .walk = true := (State.pageValid_of_store store _).trans valid
    refine ⟨fun h => absurd (valid.symm.trans h) (by decide), fun _ => ⟨s3.walkTarget, rfl, fun still => ?_,
      fun c ph step current phase => ?_, fun c setdown current => ?_⟩, fun moves => ?_⟩
    · rw [walk] at still
      exact State.walkTarget_still still
    · rw [walk] at step current
      rw [State.walkTarget_step valid3 step current phase, State.phaseSpeed_eq store, signedBy_eq]
    · rw [walk] at setdown current
      rw [State.walkTarget_setdown valid3 setdown current, State.walkField_of_store store, signedBy_eq]
    · have not_still : ¬(s3.walk.state = .idle ∨ s3.walk.state = .prep) := by
        intro still
        rw [if_pos rfl, State.walkTarget_still still] at moves
        obtain zero | sign := slewFrom_sign v.gov.baseWalk 0 (v.walkField walkSlew)
        · exact moves zero
        · exact moves (Int.sign_eq_zero_iff_zero.mp sign)
      rw [← walk] at not_still
      cases state : t.walk.state with
      | step => exact .inl rfl
      | setdown =>
        rw [state] at agrees
        obtain ⟨c, current, phase, -⟩ := agrees
        exact .inr ⟨c, rfl, current, phase⟩
      | idle => exact absurd (.inl state) not_still
      | prep => exact absurd (.inr state) not_still

/-! ### The stage of an operation begun -/

/-- The stage as it runs in `v`. -/
theorem State.walkStage_goesOn {v : State} (calm : calm v walkStageIds) (agrees : stepAgrees v.walk.state v.walk.current)
    (req : WalkRequest) (order : List Nat) :
    StageGoesOn v (v.walkStage v.mode req order).1 (v.requested req (decide (req ≠ v.gov.edge)))
      ∧ WalkReferenceFormed v (v.walkStage v.mode req order).1 (v.walkStage v.mode req order).2.2 := by
  have slip : (v.definition idBrakeSlip).severity ≠ .stop := calm _ (by decide)
  have agrees' := v.requested_agrees agrees req (decide (req ≠ v.gov.edge))
  have tried := (v.walkRequest_walked slip req (decide (req ≠ v.gov.edge))).tried slip agrees'
    fun off on => State.requested_opened off on
  have calmly := tried.walked.calmly
  have walk := tried.walked.walk
  have same := (State.walkEvaluate_calmly (fun i hi => by rw [calmly.definition]; exact calm i hi)
    (((v.walkRequest v.mode req (decide (req ≠ v.gov.edge))).leaveIdle v.mode).tryStart v.gov.zone).2 order).2.2
  refine ⟨.of_tried tried calm agrees' order, WalkReferenceFormed.of_stage calmly.store calmly.gov same ?_⟩
  have final := State.tried_agrees (v := v) (headTaken_agrees (s := v) agrees')
  rw [← walk, ← same] at final
  exact final

/-- `s` with what the start of an operation does to the links and to the Governor's wait. -/
abbrev State.freed (s : State) (l : Links) (cycle : Option Time) (waits : Bool) : State :=
  (s.setLinks l).setGov { s.gov with cycleTimer := cycle, genWaiting := waits }

theorem Leads.freed {s : State} {l : Links} (sent : s.links.u.txQueue <+: l.u.txQueue) (cycle : Option Time)
    (waits : Bool) : Leads s (s.freed l cycle waits) := ⟨⟨rfl, rfl, fun _ => rfl, sent⟩, rfl, rfl⟩

/-- The stage reads nothing of what the start did before it, and its outcome stands at the event's end. -/
theorem Began.goesOn {x : OpInputs} {order : List Nat} {s t : State} {l : Links} {cycle : Option Time} {waits : Bool}
    (began : Began x order s (s.freed l cycle waits) t) (sent : s.links.u.txQueue <+: l.u.txQueue)
    (calm : calm s walkStageIds) (agrees : stepAgrees s.walk.state s.walk.current) :
    StageGoesOn s t (s.requested x.walk (decide (x.walk ≠ s.gov.edge)))
      ∧ WalkReferenceFormed s t ((s.freed l cycle waits).opStarted x order).walkRef := by
  have reads := (Leads.freed sent cycle waits).toReads
  obtain ⟨goes, invalid, slewed, moving⟩ := State.walkStage_goesOn (v := s.freed l cycle waits) calm agrees x.walk order
  have walk_t := began.walk
  have mode_t := began.mode
  have taken {i : AlarmId} {b : Bool} (h : Taken (s.freed l cycle waits) _ i b) : Taken s t i b :=
    (reads.taken h).of_untaken (began.quiet i) mode_t
  have untaken {i : AlarmId} (h : Untaken (s.freed l cycle waits) _ i) : Untaken s t i :=
    ((reads.untaken i).trans h).trans (began.quiet i)
  obtain ⟨mode, waits_h, starts, moved, cleared, unchecked, prep, notPrep, idle, notIdle, ended, going⟩ := goes
  rw [← walk_t] at waits_h starts moved cleared unchecked prep notPrep idle notIdle ended going slewed moving
  exact ⟨{
      mode := mode_t.trans mode
      waits := waits_h
      starts := fun c tries current near => (starts c tries current near).imp_right taken
      moved := fun c tries current far => (moved c tries current far).imp_right taken
      cleared := fun h idle empty => taken (cleared h idle empty)
      unchecked := fun h active => untaken (unchecked h active)
      prep := fun c h current => taken (prep c h current)
      notPrep := fun h => taken (notPrep h)
      idle := fun h => taken (idle h)
      notIdle := fun h => untaken (notIdle h)
      ended := fun on off => taken (ended on off)
      going := fun h => untaken (going h) },
    invalid, slewed, moving⟩

/-- The stage of a REF's operation. -/
theorem referenceOperation_goesOn {s : State} {f : Frame} (starts : RefStarts s f) (order : List Nat)
    (calm : calm s walkStageIds) (agrees : stepAgrees s.walk.state s.walk.current) :
    StageGoesOn s (referenceOperation order s) (s.requested (walkRequestOf (f.words.getD 3 0))
        (decide (walkRequestOf (f.words.getD 3 0) ≠ s.gov.edge)))
      ∧ ∃ op, (referenceOperation order s).gov.op = some op ∧ WalkReferenceFormed s (referenceOperation order s) op.walkRef
          ∧ op.session = (referenceOperation order s).walk.session := by
  have began := referenceOperation_began starts order
  have op := began.op
  have walk := began.walk
  obtain ⟨goes, formed⟩ := Began.goesOn (s := s) (l := { s.links with waitingRef := none }) (cycle := s.gov.cycleTimer)
    (waits := s.gov.genWaiting) began List.prefix_rfl calm agrees
  exact ⟨goes, _, op, formed, congrArg WalkSeq.session walk.symm⟩

end Sys2Proof.Machine

open Sys2Proof Sys2Proof.Machine

/-- Settles O39: a request that is not new, or a new NONE, leaves the Walk Sequencer as it was. -/
theorem stepStartsOrWaits : Obligations.StepStartsOrWaits := by
  intro f order s starts asks calm agrees
  refine ⟨_, rfl, ?_⟩
  have goes := (referenceOperation_goesOn starts order calm agrees).1
  have nothing : s.requested (walkRequestOf (f.words.getD 3 0))
      (decide (walkRequestOf (f.words.getD 3 0) ≠ s.gov.edge)) = s.walk := by
    obtain same | none := asks
    · rw [same, decide_eq_false (fun h => h rfl)]
      rfl
    · rw [none]
      cases decide (WalkRequest.none ≠ s.gov.edge) <;> rfl
  rwa [nothing] at goes

/-- Settles O40: the reference is that of the Walk Sequencer items 1 to 3 leave, which the evaluations keep. -/
theorem walkReferenceIsSlewed : Obligations.WalkReferenceIsSlewed := by
  intro f order s starts calm agrees
  obtain ⟨-, op, current, formed, session⟩ := referenceOperation_goesOn starts order calm agrees
  exact ⟨_, op, rfl, current, formed, session⟩

end

section
/-! PROOFS. A new step request and a new CANCEL (R124 to R127, R140). -/

namespace Sys2Proof.Machine

theorem walkWord_of {f : Frame} {q : Word} (word : f.words[3]? = some q) : f.words.getD 3 0 = q := by
  rw [List.getD_eq_getElem?_getD, word, Option.getD_some]

variable {s : State} {dir : Direction}

/-- A step request accepted: the record joins the tail, and opens the session if none is active. -/
theorem State.stepRequested_joins (fit : s.mode = .run ∧ s.pageValid .walk = true ∧ s.image.swing.state = .fresh)
    (room : s.walk.queue.length < 8) :
    s.stepRequested dir = { s.walk with
      queue := s.walk.queue ++ [⟨dir, s.image.swing.position, s.now⟩]
      lockAngle := if s.walk.state = .idle ∧ s.walk.queue = [] then some s.image.swing.position else s.walk.lockAngle } := by
  rw [State.stepRequested, if_pos fit, if_pos room]
  by_cases rest : s.walk.state = .idle ∧ s.walk.queue = []
  · rw [if_pos rest, if_neg (by rw [WalkSeq.session_eq_false.mpr rest]; decide)]
  · rw [if_neg rest, if_pos (by rwa [← WalkSeq.session_eq_false, Bool.not_eq_false] at rest)]

theorem State.stepRequested_full (fit : s.mode = .run ∧ s.pageValid .walk = true ∧ s.image.swing.state = .fresh)
    (full : 8 ≤ s.walk.queue.length) : s.stepRequested dir = { s.walk with queueFull := bump s.walk.queueFull } := by
  rw [State.stepRequested, if_pos fit, if_neg (by omega)]

theorem State.stepRequested_unfit (unfit : ¬(s.mode = .run ∧ s.pageValid .walk = true ∧ s.image.swing.state = .fresh)) :
    s.stepRequested dir = s.walk := by
  rw [State.stepRequested, if_neg unfit]

/-- The record that opens a session is taken at once (R126). -/
theorem headTaken_opened (fit : s.mode = .run ∧ s.pageValid .walk = true ∧ s.image.swing.state = .fresh)
    (idle : s.walk.state = .idle) (empty : s.walk.queue = []) :
    headTaken s (s.stepRequested dir) = { s.walk with
      state := .prep
      current := some ⟨⟨dir, s.image.swing.position, s.now⟩, s.now, none, none, 0, 0, 0, 0, none⟩
      lockAngle := some s.image.swing.position } := by
  have room : s.walk.queue.length < 8 := by rw [empty]; decide
  have joins := State.stepRequested_joins (dir := dir) fit room
  rw [if_pos ⟨idle, empty⟩] at joins
  have front : (s.stepRequested dir).queue = [⟨dir, s.image.swing.position, s.now⟩] := by
    rw [joins, empty]
    rfl
  rw [headTaken_of_front front (by rw [joins]; exact idle) fit.1, joins]
  simp only [empty]

/-- A step in hand waits as it would have without the request. -/
theorem StageGoesOn.waits_of_still {t : State} {w : WalkSeq} (h : StageGoesOn s t w)
    (still : w.state ≠ .idle ∨ w.queue = [] ∨ s.mode ≠ .run) (waits : ¬(w.state = .prep ∧ InterlocksMet s)) : t.walk = w := by
  have same := headTaken_of_still still
  rw [← same] at waits
  rw [h.waits waits, same]

end Sys2Proof.Machine

open Sys2Proof Sys2Proof.Machine

/-- Settles O37: the request leaves the Walk Sequencer that `State.stepRequested` says, and the stage goes on from it; a
session it opens finds the house at the record's angle. -/
theorem stepRequestIsTaken : Obligations.StepRequestIsTaken := by
  intro f order dir s starts asks calm agrees angle record fit opens
  have goes := (referenceOperation_goesOn starts order calm agrees).1
  have requested : s.requested (walkRequestOf (f.words.getD 3 0))
      (decide (walkRequestOf (f.words.getD 3 0) ≠ s.gov.edge)) = s.stepRequested dir := by
    obtain ⟨word, rfl, new⟩ | ⟨word, rfl, new⟩ := asks
    · rw [walkWord_of word, show walkRequestOf 1 = .stepFwd from rfl, decide_eq_true (Ne.symm new)]
      rfl
    · rw [walkWord_of word, show walkRequestOf 2 = .stepRev from rfl, decide_eq_true (Ne.symm new)]
      rfl
  rw [requested] at goes
  have opened (h : opens) : headTaken s (s.stepRequested dir) = { s.walk with
      state := .prep, current := some ⟨record, s.now, none, none, 0, 0, 0, 0, none⟩, lockAngle := some angle } := by
    obtain ⟨fits, idle, empty⟩ := h
    exact headTaken_opened fits idle empty
  have tried_of_still {w : WalkSeq} (active : s.walk.state ≠ .idle) (state : w.state = s.walk.state)
      (waits : ¬Tries s s.walk) : ¬(w.state = .prep ∧ InterlocksMet s) := by
    rwa [Tries, headTaken_of_still (.inl active), ← state] at waits
  refine ⟨_, rfl, goes.mode, fun fits room => ?_, fun fits full => ?_, fun unfit => ?_, fun h unmet => ?_, fun h met => ?_,
    fun fits active room waits => ?_, fun fits active full waits => ?_, fun unfit still waits => ?_⟩
  · rwa [State.stepRequested_joins fits room] at goes
  · rwa [State.stepRequested_full fits full] at goes
  · rwa [State.stepRequested_unfit unfit] at goes
  · rw [goes.waits fun tries => unmet tries.2, opened h]
  · have head := opened h
    have near : steerNear s ⟨record, s.now, none, none, 0, 0, 0, 0, none⟩ := by
      rw [steerNear, angleSub_self, Nat.min_self]
      exact Nat.zero_le _
    rw [(goes.starts _ ⟨by rw [head], met⟩ (by rw [head]) near).1, head]
  · rw [State.stepRequested_joins fits room, if_neg fun rest => active rest.1] at goes
    exact goes.waits_of_still (.inl active) (tried_of_still active rfl waits)
  · rw [State.stepRequested_full fits full] at goes
    exact goes.waits_of_still (.inl active) (tried_of_still active rfl waits)
  · rw [State.stepRequested_unfit unfit] at goes
    have same := headTaken_of_still (s := s) (w := s.walk) (still.imp_right .inr)
    exact goes.waits_of_still (still.imp_right .inr) (by rwa [Tries, same] at waits)

/-- Settles O38: the CANCEL leaves the Walk Sequencer that `WalkSeq.cancel_cases` says, with nothing that the stage could
start. -/
theorem cancelActsByPhase : Obligations.CancelActsByPhase := by
  intro f order s starts word new calm agrees w
  have goes := (referenceOperation_goesOn starts order calm agrees).1
  have requested : s.requested (walkRequestOf (f.words.getD 3 0))
      (decide (walkRequestOf (f.words.getD 3 0) ≠ s.gov.edge)) = s.walk.cancel s.now := by
    rw [walkWord_of word, show walkRequestOf 3 = .cancel from rfl, decide_eq_true (Ne.symm new)]
    rfl
  rw [requested] at goes
  obtain ⟨empty, out⟩ := WalkSeq.cancel_rest agrees s.now
  have walk : (referenceOperation order s).walk = s.walk.cancel s.now :=
    goes.waits_of_still (.inr (.inl empty)) fun tries => out tries.1
  refine ⟨_, rfl, goes.mode, ?_, ?_, ?_, ?_, by rwa [← walk] at goes⟩
  · intro idle
    rw [walk]
    simp only [WalkSeq.cancel, idle, w]
  · intro prep
    rw [walk]
    simp only [WalkSeq.cancel, prep, w]
  · intro setdown
    rw [walk]
    simp only [WalkSeq.cancel, setdown, w]
  · intro c step current
    rw [walk]
    obtain ⟨state, -⟩ | ⟨state, -⟩ | ⟨x, -, current', outcome⟩ := WalkSeq.cancel_cases agrees s.now
    · obtain h | h := state <;> cases step.symm.trans h
    · cases step.symm.trans state
    · cases current.symm.trans current'
      obtain ⟨shown, e⟩ | ⟨shown, -, e⟩ | ⟨shown, e⟩ := outcome
      · refine ⟨fun _ => e, fun h => ?_, fun h => ?_⟩
        · obtain a | a := shown <;> obtain b | b := h <;> cases a.symm.trans b
        · obtain a | a := shown <;> cases a.symm.trans h
      · refine ⟨fun h => ?_, fun _ => e, fun h => ?_⟩
        · obtain a | a := shown <;> obtain b | b := h <;> cases a.symm.trans b
        · obtain a | a := shown <;> cases a.symm.trans h
      · refine ⟨fun h => ?_, fun h => ?_, fun _ => e⟩
        · obtain b | b := h <;> cases shown.symm.trans b
        · obtain b | b := h <;> cases shown.symm.trans b

end

section
/-! PROOFS. WATCHDOG_EXPIRY and CYCLE_TIMER_EXPIRY (R18, R20, R63 to R65). -/

namespace Sys2Proof.Machine

theorem watchdogExpiry_due {s : State} {start : Time} (working : s.working = true)
    (runs : s.links.watchdog = .running start) (due : s.referenceTimeout ≤ since s.now start) :
    watchdogExpiry s = (((s.setLinks { s.links with watchdog := .expired }).setGov
      { s.gov with cycleTimer := some s.now, edge := .none }).evaluate idLinkUpLost true).settle := by
  have is_due : s.watchdogDue = true := by
    rw [State.watchdogDue, runs]
    exact decide_eq_true due
  rw [watchdogExpiry, State.atWork_of_working working, if_pos is_due]
  rfl

/-- The cycle timer is due. -/
abbrev CycleDue (s : State) : Prop := ∃ start, s.gov.cycleTimer = some start ∧ s.cyclePeriod ≤ since s.now start

theorem State.cycleDue_iff (s : State) : s.cycleDue = true ↔ CycleDue s := by
  rw [State.cycleDue, Option.any_eq_true]
  exact exists_congr fun start => and_congr_right fun _ => decide_eq_true_iff

/-- The generated operation starts from what the expiry leaves. -/
theorem cycleTimerExpiry_begins {s : State} (working : s.working = true) (free : s.gov.op = none)
    (asked : CycleDue s ∨ s.gov.genWaiting = true) (order : List Nat) :
    cycleTimerExpiry order s = ((s.freed s.links (if s.cycleDue then some s.now else s.gov.cycleTimer) false).startOperation
      generatedInputs order).settle := by
  rw [cycleTimerExpiry, State.atWork_of_working working]
  by_cases due : s.cycleDue = true
  · simp only [State.cycleExpire, if_pos due, State.setGov_gov, free, if_true]
    rw [← free]
    rfl
  · have waits : s.gov.genWaiting = true := asked.resolve_left (mt s.cycleDue_iff.mpr due)
    simp only [State.cycleExpire, if_neg due, free, waits, if_true]
    rw [← free]
    rfl

end Sys2Proof.Machine

open Sys2Proof Sys2Proof.Machine

/-- Settles O26: the watchdog's own effect is seen by no evaluation, and the generated operation's walk stage is that of any
operation, with a request that asks for nothing. -/
theorem watchdogAndCycleTimerExpire : Obligations.WatchdogAndCycleTimerExpire := by
  refine ⟨fun s working => ⟨fun start runs due => ?_, fun expired => ?_⟩, fun order s working => ⟨fun x busy due => ?_, fun waits => ?_,
    fun free asked => ?_⟩⟩
  · have own : OwnEffect s ((s.setLinks { s.links with watchdog := .expired }).setGov
        { s.gov with cycleTimer := some s.now, edge := .none }) := ⟨rfl, rfl, rfl⟩
    refine ⟨_, rfl, ?_⟩
    rw [watchdogExpiry_due working runs due]
    exact ⟨(own.evaluated idLinkUpLost true).settle, (own.taken (State.evaluate_taken _ (by decide) true)).settle⟩
  · have idle : s.watchdogDue = false := by rw [State.watchdogDue, expired]
    refine congrArg Host.Outcome.next ?_
    rw [watchdogExpiry, State.atWork_of_working working, idle]
    rfl
  · have is_due : s.cycleDue = true := s.cycleDue_iff.mpr due
    refine congrArg Host.Outcome.next ?_
    rw [cycleTimerExpiry, State.atWork_of_working working]
    simp only [State.cycleExpire, if_pos is_due, State.setGov_gov, busy]
  · refine congrArg Host.Outcome.next ?_
    rw [referenceOperation, State.atWork_of_working working]
    split
    · rw [if_pos waits]
    · rfl
  · have began := (Leads.freed (s := s) (l := s.links) List.prefix_rfl
      (if s.cycleDue then some s.now else s.gov.cycleTimer) false).began generatedInputs order
    have made := cycleTimerExpiry_begins working free asked order
    have stage := fun calm agrees => began.goesOn List.prefix_rfl calm agrees
    obtain ⟨-, walk, -, -, own, cycle, frame, unit, sent⟩ := began
    rw [← made] at walk own cycle frame unit sent stage
    refine ⟨_, (s.freed s.links (if s.cycleDue then some s.now else s.gov.cycleTimer) false).opStarted generatedInputs order,
      rfl, rfl, rfl, rfl, rfl, rfl, rfl, rfl, rfl, rfl, congrArg WalkSeq.session walk.symm, ?_, fun due => ?_, fun idle => ?_,
      frame, unit, sent, fun calm agrees => ?_⟩
    · rw [own, cycle]
      rfl
    · rw [cycle]
      exact if_pos (s.cycleDue_iff.mpr due)
    · rw [cycle]
      exact if_neg (mt s.cycleDue_iff.mp idle)
    · have asks_nothing : s.requested generatedInputs.walk (decide (generatedInputs.walk ≠ s.gov.edge)) = s.walk := by
        cases decide (generatedInputs.walk ≠ s.gov.edge) <;> rfl
      rw [← asks_nothing]
      exact stage calm agrees

end

section
/-! PROOFS. The U-port arbiter: the order in which it fills the free slots (R15, R157, R158). -/

namespace Sys2Proof.Machine

/-- The IDs whose report waits, lowest first. -/
def State.reportsDue (s : State) : List AlarmId := (List.finRange 24).filter fun i => (s.status i).report

/-- The ALM frame of an ID's report, composed from its state now. -/
def State.almItem (s : State) (i : AlarmId) : TxFrame := ⟨composeFrame kindAlm s.stationByte (s.almWords i), .alarm⟩

theorem State.mem_reportsDue {s : State} {i : AlarmId} : i ∈ s.reportsDue ↔ (s.status i).report = true := by
  simp [State.reportsDue]

theorem State.reportsDue_nodup (s : State) : s.reportsDue.Nodup := (List.nodup_finRange 24).filter _

theorem State.firstReport_eq (s : State) : s.firstReport = s.reportsDue.head? := List.head?_filter.symm

section
variable {s : State} {i : AlarmId} {rest : List AlarmId}

/-- The report placed no longer waits; the others do. -/
theorem State.placeReport_reportsDue (front : s.reportsDue = i :: rest) : (s.placeReport i).reportsDue = rest := by
  have out : i ∉ rest := by
    have once := s.reportsDue_nodup
    rw [front] at once
    exact (List.nodup_cons.mp once).1
  have reports (j : AlarmId) : ((s.placeReport i).status j).report = ((s.status j).report && decide (j ≠ i)) := by
    by_cases same : j = i
    · subst same
      rw [show (s.placeReport j).status j = { s.status j with report := false } from State.status_setStatus _ j _]
      simp
    · rw [show (s.placeReport i).status j = s.status j from State.status_setStatus_ne _ _ same, decide_eq_true same,
        Bool.and_true]
  calc (s.placeReport i).reportsDue
      = (List.finRange 24).filter fun j => (s.status j).report && decide (j ≠ i) := by
        rw [State.reportsDue]
        exact List.filter_congr fun j _ => reports j
    _ = s.reportsDue.filter fun j => decide (j ≠ i) := by
        rw [State.reportsDue, List.filter_filter]
        exact List.filter_congr fun j _ => Bool.and_comm _ _
    _ = rest := by
        rw [front, List.filter_cons_of_neg (by simp), List.filter_eq_self]
        exact fun j hj => decide_eq_true fun same => out (same ▸ hj)

/-- It changes nothing of what another ID reports. -/
theorem State.placeReport_almItem {j : AlarmId} (other : j ≠ i) : (s.placeReport i).almItem j = s.almItem j := by
  have status : (s.placeReport i).status j = s.status j := State.status_setStatus_ne _ _ other
  rw [State.almItem, State.almItem, State.almWords, State.almWords, status]
  rfl

theorem State.grant_report (front : s.reportsDue = i :: rest) : s.grant = some (s.placeReport i) := by
  rw [State.grant, State.firstReport_eq, front]
  rfl

theorem State.grant_reply {words : List Word} {restart : Bool} (none : s.reportsDue = [])
    (waits : s.mgmt.unit = .replying words restart) : s.grant = some (s.placeReply words restart) := by
  rw [State.grant, State.firstReport_eq, none, waits]
  rfl

theorem State.grant_nothing (none : s.reportsDue = []) (waits : ∀ words restart, s.mgmt.unit ≠ .replying words restart) :
    s.grant = .none := by
  rw [State.grant, State.firstReport_eq, none]
  cases unit : s.mgmt.unit with
  | replying words restart => exact absurd unit (waits words restart)
  | _ => rfl

end

/-- The arbiter over `n` free slots: the reports first, then the reply. -/
structure Fills (n : Nat) (s t : State) : Prop where
  pending : t.reportsDue = s.reportsDue.drop n
  replies : ∀ words restart, s.mgmt.unit = .replying words restart → s.reportsDue.length < n →
    t.links.u.txQueue = s.links.u.txQueue ++ s.reportsDue.map s.almItem
        ++ [⟨composeFrame kindMrep s.stationByte words, if restart then .restartReply else .reply⟩]
      ∧ t.mgmt.unit = if restart then .restartPlaced else .free
  reports : (∀ words restart, s.mgmt.unit ≠ .replying words restart) ∨ n ≤ s.reportsDue.length →
    t.links.u.txQueue = s.links.u.txQueue ++ (s.reportsDue.take n).map s.almItem ∧ t.mgmt.unit = s.mgmt.unit

theorem State.arbitrate_fills (n : Nat) (s : State) : Fills n s (State.arbitrate n s) := by
  induction n generalizing s with
  | zero => exact ⟨rfl, fun _ _ _ h => absurd h (Nat.not_lt_zero _), fun _ => ⟨(List.append_nil _).symm, rfl⟩⟩
  | succ n ih =>
    cases front : s.reportsDue with
    | cons i rest =>
      have out : i ∉ rest := by
        have once := s.reportsDue_nodup
        rw [front] at once
        exact (List.nodup_cons.mp once).1
      have next := State.placeReport_reportsDue front
      have items {js : List AlarmId} (sub : ∀ j ∈ js, j ∈ rest) :
          js.map (s.placeReport i).almItem = js.map s.almItem :=
        List.map_congr_left fun j hj => State.placeReport_almItem fun same => out (same ▸ sub j hj)
      have queue : (s.placeReport i).links.u.txQueue = s.links.u.txQueue ++ [s.almItem i] := rfl
      obtain ⟨pending, replies, reports⟩ := ih (s.placeReport i)
      rw [State.arbitrate, State.grant_report front]
      rw [next] at pending replies reports
      refine ⟨by rw [pending, front]; rfl, fun words restart waits few => ?_, fun h => ?_⟩
      · rw [front] at few ⊢
        obtain ⟨sent, unit⟩ := replies words restart waits (Nat.lt_of_succ_lt_succ few)
        refine ⟨?_, unit⟩
        rw [sent, queue, items fun _ => id, List.map_cons, List.append_assoc s.links.u.txQueue, List.singleton_append]
        rfl
      · rw [front] at h ⊢
        obtain ⟨sent, unit⟩ := reports (h.imp_right Nat.le_of_succ_le_succ)
        refine ⟨?_, unit⟩
        rw [sent, queue, items fun _ => List.mem_of_mem_take, List.take_succ_cons, List.map_cons, List.append_assoc,
          List.singleton_append]
    | nil =>
      by_cases waits : ∃ words restart, s.mgmt.unit = .replying words restart
      · obtain ⟨words, restart, unit⟩ := waits
        have idle : (s.placeReply words restart).grant = none := by
          refine State.grant_nothing front fun words' restart' => ?_
          show (if restart then MgmtUnit.restartPlaced else .free) ≠ _
          cases restart <;> exact nofun
        rw [State.arbitrate, State.grant_reply front unit]
        show Fills _ s (State.arbitrate n (s.placeReply words restart))
        rw [State.arbitrate_of_grant_none idle]
        refine ⟨by rw [front]; exact front, fun words' restart' unit' _ => ?_, fun h => ?_⟩
        · cases unit.symm.trans unit'
          rw [front, List.map_nil, List.append_nil]
          exact ⟨rfl, rfl⟩
        · rw [front] at h
          obtain never | few := h
          · exact absurd unit (never words restart)
          · exact absurd few (Nat.not_succ_le_zero n)
      · have never : ∀ words restart, s.mgmt.unit ≠ .replying words restart := fun words restart unit =>
          waits ⟨words, restart, unit⟩
        rw [State.arbitrate_of_grant_none (State.grant_nothing front never)]
        exact ⟨by rw [front, List.drop_nil], fun words restart unit => absurd unit (never words restart),
          fun _ => ⟨by rw [front, List.take_nil]; exact (List.append_nil _).symm, rfl⟩⟩

/-- The report as the statement writes it. -/
theorem State.almItem_eq (s : State) (i : AlarmId) :
    s.almItem i = ⟨composeFrame 0x74 (BitVec.ofNat 8 s.station)
      [ wordOfNat i
        , wordOfNat (((s.entry? i).map (·.severity)).getD (s.definition i).severity).code
        , almFlags (s.entry? i).isSome (s.status i).condition ((s.entry? i).any (·.acked)) (s.status i).forced
        , ((((s.entry? i).map (·.raised)).getD (s.status i).lastRaise) >>> 16).setWidth 16
        , (((s.entry? i).map (·.raised)).getD (s.status i).lastRaise).setWidth 16
        , (s.status i).occurred.setWidth 16 ], .alarm⟩ := by
  rw [State.almItem, State.almWords]
  cases s.entry? i <;> rfl

end Sys2Proof.Machine

open Sys2Proof Sys2Proof.Machine

/-- Settles O25, by induction on the free slots. -/
theorem arbiterFillsFreeSlots : Obligations.ArbiterFillsFreeSlots := by
  intro s bound free ids alm t
  have items : alm = s.almItem := funext fun i => (s.almItem_eq i).symm
  obtain ⟨pending, replies, reports⟩ := State.arbitrate_fills free s
  have settled : t = State.drive (State.arbitrate free s) := rfl
  have quiet (i : AlarmId) := ((State.settle_effect s).alarms.untaken (State.settle_mode s) i).1
  refine ⟨fun i => ?_, quiet, ?_, ?_⟩
  · rw [Bool.eq_iff_iff, decide_eq_true_iff]
    exact State.mem_reportsDue.symm.trans (by rw [show t.reportsDue = ids.drop free from pending])
  · rw [items]
    exact replies
  · rw [items]
    exact reports

end

section
/-! PROOFS. The profile request and the switch, the rope stage and the swing stage (R53 to R56, R69, R70, R86 to R98, R101,
R109 to R117). -/

namespace Sys2Proof.Machine

/-! ### The end of a stage -/

/-- A stage's evaluations `u`, from `v` that its first effects leave of `s`; then the Governor is written and the event
ends in `t`. -/
structure StageEnds (ids : List AlarmId) (s v u t : State) (g : Governor) : Prop where
  gov    : t.gov = g
  store  : t.store = v.store
  image  : t.image = v.image
  down   : t.links.d = v.links.d
  queue  : t.mgmt.queue = v.mgmt.queue
  effect : Effect ids s t ((v.setGov g).withAlarmsOf s)
  taken  : ∀ i b, Taken v u i b → Taken s t i b

theorem Leads.stage_ends {ids : List AlarmId} {s v u : State} (leads : Leads s v) (evaluated : Evaluated ids v u)
    (g : Governor) : StageEnds ids s v u (u.setGov g).settle g := by
  have settled := State.settle_effect (u.setGov g)
  have own : (u.setGov g).settle.withAlarmsOf s = (v.setGov g).withAlarmsOf s := by
    rw [State.settle_withAlarmsOf, evaluated.only]
    rfl
  have effect := ((leads.effect evaluated.effect).then_own (t' := u.setGov g) rfl rfl rfl List.prefix_rfl).settle
  exact {
    gov := State.settle_gov _
    store := (State.settle_store _).trans evaluated.store
    image := (State.settle_image _).trans evaluated.image
    down := congrArg (·.links.d) own
    queue := congrArg (·.mgmt.queue) own
    effect := by
      rw [← own]
      exact ⟨rfl, effect.alarms, effect.walk, effect.unit, effect.sent⟩
    taken := fun i b h => ((leads.taken h).then_own (t' := u.setGov g) rfl).settle }

/-! ### A governed reference (R92 to R97, R113, R116) -/

theorem derateBy_sign (v : Int) (f : Nat) : derateBy v f = 0 ∨ (derateBy v f).sign = v.sign := by
  have signed : derateBy v f = v.sign * (v.natAbs * f / 256 : Nat) := by
    obtain neg | rfl | pos := lt_trichotomy v 0
    · have e : v * f = -((v.natAbs * f : Nat) : Int) := by
        rw [Int.natCast_mul, Int.ofNat_natAbs_of_nonpos neg.le, Int.neg_mul, Int.neg_neg]
      rw [derateBy, e, Int.neg_tdiv, Int.sign_eq_neg_one_of_neg neg, Int.neg_one_mul]
      rfl
    · simp [derateBy]
    · have e : v * f = ((v.natAbs * f : Nat) : Int) := by
        rw [Int.natCast_mul, Int.natAbs_of_nonneg pos.le]
      rw [derateBy, e, Int.sign_eq_one_of_pos pos, Int.one_mul]
      rfl
  rw [signed]
  exact sign_mul_follows v _

/-- A reference for the command `c` within the limit `l` and the derate `f`. -/
def Governed (ref c : Int) (l f : Nat) : Prop := (ref = 0 ∨ ref.sign = c.sign) ∧ ref.natAbs ≤ l * f / 256

theorem Governed.zero (c : Int) (l f : Nat) : Governed 0 c l f := ⟨.inl rfl, Nat.zero_le _⟩

theorem slewed_governed (b c : Int) (i o f n : Nat) :
    Governed (slewFrom b (derateBy (clampTo c i o) f) n) c (if 0 < c then i else o) f := by
  constructor
  · obtain zero | slewed := slewFrom_sign b (derateBy (clampTo c i o) f) n
    · exact .inl zero
    · obtain zero | derated := derateBy_sign (clampTo c i o) f
      · rw [zero] at slewed ⊢
        exact .inl (Int.sign_eq_zero_iff_zero.mp slewed)
      · obtain zero | clamped := (clampTo_follows c i o).1
        · rw [zero] at derated slewed ⊢
          rw [derated] at slewed
          exact .inl (Int.sign_eq_zero_iff_zero.mp slewed)
        · exact .inr ((slewed.trans derated).trans clamped)
  · calc (slewFrom b (derateBy (clampTo c i o) f) n).natAbs
        ≤ (derateBy (clampTo c i o) f).natAbs := slewFrom_natAbs_le _ _ _
      _ = (clampTo c i o).natAbs * f / 256 := derateBy_natAbs _ _
      _ ≤ (if 0 < c then i else o) * f / 256 := by
        rw [clampTo_natAbs]
        exact Nat.div_le_div_right (Nat.mul_le_mul_right f (min_le_right _ _))

/-- A command whose limit is 0 in its positive direction gives no positive reference. -/
theorem Governed.nonpos {ref c : Int} {l f : Nat} (h : Governed ref c l f) (stopped : 0 < c → l = 0) : ref ≤ 0 := by
  obtain ⟨sign, le⟩ := h
  by_cases pos : 0 < c
  · rw [stopped pos, Nat.zero_mul, Nat.zero_div] at le
    omega
  · obtain rfl | same := sign
    · rfl
    · by_contra up
      rw [Int.sign_eq_one_of_pos (not_le.mp up)] at same
      exact pos (Int.pos_of_sign_eq_one same.symm)

/-! ### The rope references -/

/-- A rope's reference: slewed in RUN from a VALID profile, 0 otherwise (R96, R97). -/
theorem State.ropeSlew_forced (s : State) (mode : Mode) (b v : Int) (f : Field) : s.ropeSlew b (forceByMode mode v) f
    = if mode = .run ∧ s.pageValid s.activePage = true then slewFrom b v (f.read s.profileWords) else 0 := by
  rw [State.ropeSlew, forceByMode]
  by_cases valid : s.pageValid s.activePage = true
  · rw [if_pos valid]
    by_cases run : mode = .run
    · rw [if_pos run, if_pos ⟨run, valid⟩]
    · rw [if_neg run, if_neg fun h => run h.1]
      exact (slewFrom_follows b 0 _).eq_zero
  · rw [if_neg valid, if_neg fun h => valid h.2]

theorem State.hoistReference_governed (s : State) (op : Op) : Governed (s.hoistReference op) op.hoistCommand
    (if 0 < op.hoistCommand then s.limit op .hoistIn else s.limit op .hoistOut) op.derate := by
  rw [State.hoistReference, State.ropeSlew_forced]
  split
  · exact slewed_governed _ _ _ _ _ _
  · exact .zero _ _ _

theorem State.dragReference_governed (s : State) (op : Op) : Governed (s.dragReference op) op.dragCommand
    (if 0 < op.dragCommand then s.limit op .dragIn else s.limit op .dragOut) op.derate := by
  rw [State.dragReference, State.ropeSlew_forced]
  split
  · exact slewed_governed _ _ _ _ _ _
  · exact .zero _ _ _

/-- The clamp reduced a command exactly where the limit for its direction is less (R93, R113). -/
theorem clampTo_reduces (c : Int) (i o : Nat) :
    decide ((clampTo c i o).natAbs < c.natAbs) = decide ((if 0 < c then i else o) < c.natAbs) := by
  rw [clampTo_natAbs]
  exact decide_eq_decide.mpr (by omega)

theorem clampTo_reduction (c : Int) (i o : Nat) :
    c.natAbs - (clampTo c i o).natAbs = c.natAbs - (if 0 < c then i else o) := by
  rw [clampTo_natAbs]
  omega

/-! ### The profile request and the switch (R53, R54, R56) -/

section
variable {s : State} {mode : Mode} {req : Word}

theorem State.profileRequest_ignored (h : mode = .loading ∨ req = 0xFFFF) : s.profileRequest mode req = (s, false) := by
  rw [State.profileRequest]
  by_cases loading : mode = .loading
  · rw [if_pos loading]
  · rw [if_neg loading, if_pos (show req = noneWord from h.resolve_left loading)]

theorem State.profileRequest_active (h : ¬(mode = .loading ∨ req = 0xFFFF)) (same : req.toNat = s.store.active.val) :
    s.profileRequest mode req = (s.setStore { s.store with pendingProfile := none }, false) := by
  rw [not_or] at h
  rw [State.profileRequest, if_neg h.1, if_neg (show ¬req = noneWord from h.2), if_pos same]

theorem State.profileRequest_offered (h : ¬(mode = .loading ∨ req = 0xFFFF)) (other : req.toNat ≠ s.store.active.val)
    {n : Fin 4} (asked : n.val = req.toNat) (valid : s.pageValid (.profile n) = true) :
    s.profileRequest mode req = (s.setStore { s.store with pendingProfile := some n }, false) := by
  rw [not_or] at h
  have bound : req.toNat < 4 := asked ▸ n.isLt
  have named : (⟨req.toNat, bound⟩ : Fin 4) = n := Fin.ext asked.symm
  rw [State.profileRequest, if_neg h.1, if_neg (show ¬req = noneWord from h.2), if_neg other, dif_pos bound]
  simp only [named, if_pos valid]

theorem State.profileRequest_refused (h : ¬(mode = .loading ∨ req = 0xFFFF)) (other : req.toNat ≠ s.store.active.val)
    (none : ¬∃ n : Fin 4, n.val = req.toNat ∧ s.pageValid (.profile n) = true) : s.profileRequest mode req = (s, true) := by
  rw [not_or] at h
  rw [State.profileRequest, if_neg h.1, if_neg (show ¬req = noneWord from h.2), if_neg other]
  split
  · rename_i bound
    rw [if_neg fun valid => none ⟨⟨req.toNat, bound⟩, rfl, valid⟩]
  · rfl

end

/-- The request changes the pending profile alone. -/
theorem State.profileRequest_store (s : State) (mode : Mode) (req : Word) : (s.profileRequest mode req).1
    = s.setStore { s.store with pendingProfile := (s.profileRequest mode req).1.store.pendingProfile } := by
  by_cases ignored : mode = .loading ∨ req = 0xFFFF
  · rw [State.profileRequest_ignored ignored]
    rfl
  · by_cases same : req.toNat = s.store.active.val
    · rw [State.profileRequest_active ignored same]
      rfl
    · by_cases offered : ∃ n : Fin 4, n.val = req.toNat ∧ s.pageValid (.profile n) = true
      · obtain ⟨n, asked, valid⟩ := offered
        rw [State.profileRequest_offered ignored same asked valid]
        rfl
      · rw [State.profileRequest_refused ignored same offered]
        rfl

theorem State.atRestPoint_iff (s : State) : s.atRestPoint = true ↔ s.gov.baseHoist = 0 ∧ s.gov.baseDrag = 0
    ∧ s.image.hoist.state = .fresh ∧ s.image.drag.state = .fresh ∧ s.image.swing.state = .fresh
    ∧ s.image.hoist.speed.natAbs ≤ s.restRopeSpeed ∧ s.image.drag.speed.natAbs ≤ s.restRopeSpeed
    ∧ s.image.swing.speed.natAbs ≤ s.restSwingSpeed := by
  simp only [State.atRestPoint, Bool.and_eq_true, decide_eq_true_eq, AxisRecord.isFresh_iff, and_assoc]
  rfl

/-- The switch, where one is pending at a rest point (R56, R59). -/
theorem State.profileSwitch_switches {s : State} {n : Fin 4} (pending : s.store.pendingProfile = some n)
    (rest : s.atRestPoint = true) : s.profileSwitch = s.setStore { s.store with
      active := n, pendingProfile := none, scan := s.store.scan.map fun _ => ⟨.config, 0, 0xFFFF⟩, scanDue := false } := by
  simp only [State.profileSwitch, pending, if_pos rest]
  rfl

theorem State.profileSwitch_waits {s : State} (h : s.store.pendingProfile = none ∨ ¬s.atRestPoint = true) :
    s.profileSwitch = s := by
  rw [State.profileSwitch]
  split
  · rfl
  · rename_i n pending
    rw [if_neg (h.resolve_left (by simp [pending]))]

/-- The Table Store after the request and the switch, its pages as they were. -/
theorem State.governed_store (s : State) (op : Op) : ∃ active pending scan due,
    (s.profileRequest op.mode op.profileRequest).1.profileSwitch = s.setStore { s.store with
      active := active, pendingProfile := pending, scan := scan, scanDue := due } := by
  rw [State.profileRequest_store]
  generalize (s.profileRequest op.mode op.profileRequest).1.store.pendingProfile = pending
  cases pending with
  | none => exact ⟨_, _, _, _, State.profileSwitch_waits (.inl rfl)⟩
  | some n =>
    by_cases rest : (s.setStore { s.store with pendingProfile := some n }).atRestPoint = true
    · exact ⟨_, _, _, _, State.profileSwitch_switches rfl rest⟩
    · exact ⟨_, _, _, _, State.profileSwitch_waits (.inr rest)⟩

theorem State.governed_leads (s : State) (op : Op) :
    Leads s (s.profileRequest op.mode op.profileRequest).1.profileSwitch := by
  obtain ⟨active, pending, scan, due, e⟩ := s.governed_store op
  rw [e]
  exact ⟨⟨rfl, rfl, fun _ => rfl, List.prefix_rfl⟩, rfl, rfl⟩

/-! ### ROPE_STAGE -/

/-- The state after the evaluations of a rope stage that the request and the switch left `s2`. -/
def State.ropeEvaluated (s2 : State) (op : Op) (refused : Bool) (order : List Nat) : State :=
  (s2.evaluate idProfileRefused refused).evaluateAll (arrange order (s2.ropeEvaluations op))

theorem ropeStage_next {s : State} {op : Op} (next : StageNext s op .rope) (order : List Nat) :
    let s2 := (s.profileRequest op.mode op.profileRequest).1.profileSwitch
    ropeStage order s = ((s2.ropeEvaluated op (s.profileRequest op.mode op.profileRequest).2 order).setGov { s.gov with
      zone := s2.zoneNow, insideGated := s2.gatedHold, op := some (s2.ropeResult op) }).settle := by
  intro s2
  obtain ⟨working, current, stage⟩ := next
  have gov : (s2.ropeEvaluated op (s.profileRequest op.mode op.profileRequest).2 order).gov = s.gov := by
    rw [State.ropeEvaluated, State.evaluateAll_gov, State.evaluate_gov, State.profileSwitch_gov, State.profileRequest_gov]
  rw [ropeStage, State.atWork_of_working working]
  simp only [current, if_pos stage]
  rw [← gov]
  rfl

theorem State.ropeEvaluations_nodup (s2 : State) (op : Op) :
    ((idProfileRefused :: (s2.ropeEvaluations op).map Prod.fst)).Nodup := by
  show [idProfileRefused, idTightline, idTwoBlock, idEnvelopeClamp, idRopeRange, idHoistOverload].Nodup
  decide

/-- Each of the stage's evaluations is taken as if it were made alone. -/
theorem State.ropeEvaluated_evaluated (s2 : State) (op : Op) (refused : Bool) (order : List Nat) :
    Evaluated [idProfileRefused, idTightline, idTwoBlock, idEnvelopeClamp, idRopeRange, idHoistOverload] s2
        (s2.ropeEvaluated op refused order)
      ∧ Taken s2 (s2.ropeEvaluated op refused order) idProfileRefused refused
      ∧ ∀ i b, (i, b) ∈ s2.ropeEvaluations op → Taken s2 (s2.ropeEvaluated op refused order) i b := by
  obtain ⟨out, once⟩ := List.nodup_cons.mp (s2.ropeEvaluations_nodup op)
  have first := s2.evaluate_evaluated idProfileRefused refused
  obtain ⟨rest, taken⟩ := (s2.evaluate idProfileRefused refused).evaluateAll_arranged order once
  refine ⟨first.trans rest fun i hi => (List.mem_singleton.mp hi) ▸ out, ?_, fun i b mem => ?_⟩
  · exact (s2.evaluate_taken (by decide) refused).then_untaken (rest.untaken out fun h => absurd h (by decide))
      rest.stays_halted
  · have mem' : i ∈ (s2.ropeEvaluations op).map Prod.fst := List.mem_map_of_mem mem
    have not_brake : i ≠ idBrakeSlip := by
      rintro rfl
      have named : idBrakeSlip ∈ [idTightline, idTwoBlock, idEnvelopeClamp, idRopeRange, idHoistOverload] := mem'
      exact absurd named (by decide)
    have ne : i ∉ [idProfileRefused] := fun h => out (List.mem_singleton.mp h ▸ mem')
    exact (first.sameReading ne fun h => absurd h not_brake).taken (taken i b mem fun h => absurd h not_brake)

theorem ropeStage_ends {s : State} {op : Op} (next : StageNext s op .rope) (order : List Nat) :
    let s2 := (s.profileRequest op.mode op.profileRequest).1.profileSwitch
    StageEnds [idProfileRefused, idTightline, idTwoBlock, idEnvelopeClamp, idRopeRange, idHoistOverload] s s2
      (s2.ropeEvaluated op (s.profileRequest op.mode op.profileRequest).2 order) (ropeStage order s)
      { s.gov with zone := s2.zoneNow, insideGated := s2.gatedHold, op := some (s2.ropeResult op) } := by
  intro s2
  rw [ropeStage_next next]
  exact (s.governed_leads op).stage_ends (s2.ropeEvaluated_evaluated op _ order).1 _

end Sys2Proof.Machine

open Sys2Proof Sys2Proof.Machine

/-- Settles O34: the request and the switch write the Table Store alone, and the rest of the stage keeps it. -/
theorem profileRequestAndSwitch : Obligations.ProfileRequestAndSwitch := by
  intro op order s next req ignored offered rest
  have ends := ropeStage_ends next order
  have refused := ends.taken _ _ (State.ropeEvaluated_evaluated _ op (s.profileRequest op.mode op.profileRequest).2 order).2.1
  refine ⟨_, (s.profileRequest op.mode op.profileRequest).1.store.pendingProfile, rfl, fun h => ?_, fun h same => ?_,
    fun h other valid => ?_, fun h other none => ?_, ?_⟩
  · rw [State.profileRequest_ignored h] at refused ⊢
    exact ⟨rfl, refused⟩
  · rw [State.profileRequest_active h same] at refused ⊢
    exact ⟨rfl, refused⟩
  · obtain ⟨n, asked, valid⟩ := valid
    rw [State.profileRequest_offered h other asked valid] at refused ⊢
    exact ⟨congrArg some asked, refused⟩
  · rw [State.profileRequest_refused h other none] at refused ⊢
    exact ⟨rfl, refused⟩
  · have store := ends.store
    rw [State.profileRequest_store] at store
    generalize (s.profileRequest op.mode op.profileRequest).1.store.pendingProfile = pending at store ⊢
    have at_rest : (s.setStore { s.store with pendingProfile := pending }).atRestPoint = true ↔ rest :=
      State.atRestPoint_iff _
    refine ⟨fun n asked resting => ?_, fun waits => ?_⟩
    · rw [State.profileSwitch_switches asked (at_rest.mpr resting)] at store
      exact store
    · rw [State.profileSwitch_waits (waits.imp_right (mt at_rest.mp))] at store
      exact store

/-- Settles O32: each reference is the derated clamped command, slewed, in RUN from a VALID profile, and 0 otherwise. -/
theorem ropeStageGoverns : Obligations.RopeStageGoverns := by
  intro op order s next s2 lh ld
  have ends := ropeStage_ends next order
  have hoist := s2.hoistReference_governed op
  have drag := s2.dragReference_governed op
  have base : s2.gov = s.gov := by rw [State.profileSwitch_gov, State.profileRequest_gov]
  obtain ⟨active, pending, scan, due, e⟩ := s.governed_store op
  refine ⟨_, s2.hoistReference op, s2.dragReference op, rfl, ?_, hoist.1, hoist.2, drag.1, drag.2,
    s2.ropeReferences_of_not_run, fun session => ?_, fun run valid => ?_, ?_, ?_, ?_⟩
  · rw [ends.gov, State.ropeResult, State.hoistClamped, State.dragClamped, clampTo_reduces, clampTo_reduces]
  · obtain ⟨hoist_in, drag_in⟩ := s2.limits_of_session session
    exact ⟨hoist.nonpos fun up => (if_pos up).trans hoist_in, drag.nonpos fun up => (if_pos up).trans drag_in⟩
  · rw [State.hoistReference, State.dragReference, State.ropeSlew_forced, State.ropeSlew_forced, if_pos ⟨run, valid⟩,
      if_pos ⟨run, valid⟩, base]
    exact ⟨rfl, rfl⟩
  · rw [ends.down, e]; rfl
  · rw [ends.image, e]; rfl
  · rw [ends.queue, e]; rfl

/-- Settles O33: the five evaluations are made on the state that the request and the switch left, and of different IDs. -/
theorem ropeStageEvaluates : Obligations.RopeStageEvaluates := by
  intro op order s next s2 known m cut margin
  have ends := ropeStage_ends next order
  have taken {i : AlarmId} {b : Bool} (mem : (i, b) ∈ s2.ropeEvaluations op) : Taken s (ropeStage order s) i b :=
    ends.taken _ _ ((s2.ropeEvaluated_evaluated op _ order).2.2 i b mem)
  have two_block : (known && decide (s2.zoneNow = .boomtip) && decide (0 < op.hoistCommand))
      = (decide (s2.zoneNow = .boomtip) && decide (0 < op.hoistCommand)) := by
    have table : known = s2.usableTable := rfl
    cases usable : s2.usableTable with
    | true => rw [table, usable, Bool.true_and]
    | false =>
      have unknown : s2.zoneNow = .unknown := if_neg (by rw [usable]; decide)
      rw [table, usable, unknown]
      rfl
  have clamped : (decide (margin < cut op.hoistCommand .hoistIn .hoistOut)
      || decide (margin < cut op.dragCommand .dragIn .dragOut)) = s2.envelopeClamped op := by
    rw [State.envelopeClamped, State.hoistClamped, State.dragClamped, clampTo_reduction, clampTo_reduction]
    rfl
  refine ⟨_, rfl, ends.effect.alarms, ends.effect.walk, taken (b := s2.tightline _ _) (by simp [State.ropeEvaluations]), ?_, ?_, ?_, ?_⟩
  · rw [two_block]
    exact taken (by simp [State.ropeEvaluations])
  · exact taken (b := s2.overload) (by simp [State.ropeEvaluations])
  · rw [clamped]
    exact taken (by simp [State.ropeEvaluations])
  · exact taken (b := s2.ropeOutside) (by simp [State.ropeEvaluations])

end

section
/-! PROOFS. The swing stage (R101, R109, R113 to R117). -/

namespace Sys2Proof.Machine

theorem State.swingForced_iff (s : State) (op : Op) : s.swingForced op = true ↔ s.image.swing.state ≠ .fresh
    ∨ op.session = true ∨ op.mode ≠ .run ∨ op.brakeRequest = true ∨ s.pageValid s.activePage = false := by
  have fresh : (!(s.axis .swing).isFresh) = true ↔ s.image.swing.state ≠ .fresh := by
    rw [Bool.not_eq_true', ← Bool.not_eq_true, AxisRecord.isFresh_iff]
    rfl
  simp only [State.swingForced, Bool.or_eq_true, fresh, decide_eq_true_eq, Bool.not_eq_true', or_assoc]

section
variable {s : State} {op : Op} {order : List Nat}

theorem swingStage_ends (next : StageNext s op .swing)
    (once : ((s.swingEvaluations op).map Prod.fst).Nodup) : StageEnds ((s.swingEvaluations op).map Prod.fst) s s
      (s.evaluateAll (arrange order (s.swingEvaluations op))) (swingStage order s)
      { s.gov with op := some (s.swingResult op) } := by
  obtain ⟨working, current, stage⟩ := next
  have evaluated := (s.evaluateAll_arranged order once).1
  have made : swingStage order s = ((s.evaluateAll (arrange order (s.swingEvaluations op))).setGov
      { s.gov with op := some (s.swingResult op) }).settle := by
    rw [swingStage, State.atWork_of_working working]
    simp only [current, if_pos stage]
    rw [← evaluated.gov]
    rfl
  rw [made]
  exact (Leads.refl s).stage_ends evaluated _

theorem swingStage_taken (next : StageNext s op .swing) (once : ((s.swingEvaluations op).map Prod.fst).Nodup)
    {i : AlarmId} {b : Bool} (not_brake : i ≠ idBrakeSlip) (mem : (i, b) ∈ s.swingEvaluations op) :
    Taken s (swingStage order s) i b :=
  (swingStage_ends next once).taken i b ((s.evaluateAll_arranged order once).2 i b mem fun h => absurd h not_brake)

/-- The event, with its IDs in the order in which the statement names them. -/
theorem Effect.mono {ids ids' : List AlarmId} {t u : State} (h : Effect ids s t u) (same : ∀ i, i ∈ ids ↔ i ∈ ids') :
    Effect ids' s t u := by
  obtain ⟨own, ⟨status, report, entry, owed, cause, mode⟩, walk, unit, sent⟩ := h
  simp only [untouchedId, same] at status report entry mode
  exact ⟨own, ⟨status, report, entry, owed, cause, mode⟩, walk, unit, sent⟩

end

end Sys2Proof.Machine

open Sys2Proof Sys2Proof.Machine

/-- Settles O35, the forced stage and the governed one. -/
theorem swingStageForcesOrGoverns : Obligations.SwingStageForcesOrGoverns := by
  constructor
  case left =>
    intro op order s next reasons tested
    have forced : s.swingForced op = true := (s.swingForced_iff op).mpr reasons
    have test : ((s.axis .swing).isFresh && s.pageValid s.activePage) = true ↔ tested := by
      rw [Bool.and_eq_true, AxisRecord.isFresh_iff]
      rfl
    have result : s.swingResult op = { op with
        stage := .assembly, swingRef := 0, swingBrake := true, swingLimited := false } := if_pos forced
    by_cases tests : tested
    · have evaluations : s.swingEvaluations op = [(idSwingGuard, false), (idSectorViolation, s.insideBlocking)] := by
        rw [State.swingEvaluations, if_pos forced, if_pos (test.mpr tests)]
      have once : ((s.swingEvaluations op).map Prod.fst).Nodup := by
        rw [evaluations]
        show [idSwingGuard, idSectorViolation].Nodup
        decide
      have effect := (swingStage_ends (order := order) next once).effect
      rw [evaluations, result] at effect
      rw [if_pos tests]
      exact ⟨_, rfl, effect, swingStage_taken next once (by decide) (by rw [evaluations]; simp),
        fun _ => swingStage_taken next once (by decide) (by rw [evaluations]; simp)⟩
    · have evaluations : s.swingEvaluations op = [(idSwingGuard, false)] := by
        rw [State.swingEvaluations, if_pos forced, if_neg (mt test.mp tests)]
      have once : ((s.swingEvaluations op).map Prod.fst).Nodup := by
        rw [evaluations]
        show [idSwingGuard].Nodup
        decide
      have effect := (swingStage_ends (order := order) next once).effect
      rw [evaluations, result] at effect
      rw [if_neg tests]
      exact ⟨_, rfl, effect, swingStage_taken next once (by decide) (by rw [evaluations]; simp),
        fun tests' => absurd tests' tests⟩
  case right =>
    intro op order s next fresh session run brake valid l limited
    have free : ¬s.swingForced op = true := by
      rw [State.swingForced_iff]
      simp [fresh, session, run, brake, valid]
    have reduced : s.swingReduced op = limited := by
      rw [State.swingReduced, State.swingClamped, clampTo_reduces, ite_self]
    have evaluations : s.swingEvaluations op
        = [(idSectorViolation, s.insideBlocking), (idSwingGuard, !s.insideBlocking && limited)] := by
      rw [State.swingEvaluations, if_neg free, reduced]
    have once : ((s.swingEvaluations op).map Prod.fst).Nodup := by
      rw [evaluations]
      show [idSectorViolation, idSwingGuard].Nodup
      decide
    have effect := (swingStage_ends (order := order) next once).effect
    rw [evaluations, State.swingResult, if_neg free, reduced] at effect
    have governed := slewed_governed s.gov.baseSwing op.swingCommand l l op.derate (proSwingSlew.read s.profileWords)
    rw [ite_self] at governed
    exact ⟨_, _, rfl, effect.mono fun i => by simp [or_comm], governed.1, governed.2, rfl,
      swingStage_taken next once (by decide) (by rw [evaluations]; simp),
      swingStage_taken next once (by decide) (by rw [evaluations]; simp)⟩

end

section
/-! PROOFS. The commanded restart: its effect, the outcomes held in it, and its end (R21, R35, R178). -/

namespace Sys2Proof.Machine

/-! ### Evaluations of one ID, one after another -/

theorem State.absent0_kept_forced (s : State) (i : AlarmId) :
    ((s.absent0 i).status i).forced = (s.status i).forced := by
  cases free : (s.status i).forced with
  | true =>
    rw [State.absent0_of_forced free, State.present0_forced, free]
  | false =>
    obtain ⟨-, e0⟩ | ⟨e, found, -, e0⟩ | ⟨e, -, -, -, e0⟩ := State.absent0_of_free free
    · simp [e0, State.markAbsent, free]
    · obtain rfl := State.entry?_id found
      rw [e0, State.rearmTest_status, State.removeEntry_status]
      split <;> simp [State.markAbsent, free]
    · simp [e0, State.markAbsent, free]

theorem State.evaluate0_kept_forced (s : State) (i : AlarmId) (b : Bool) :
    ((s.evaluate0 i b).status i).forced = (s.status i).forced := by
  cases b with
  | true => exact s.present0_forced i
  | false => exact s.absent0_kept_forced i

theorem Untaken.forced {s t : State} {i : AlarmId} (h : Untaken s t i) : (t.status i).forced = (s.status i).forced := by
  obtain ⟨status, -⟩ := h
  rw [← status]

/-- Evaluations after what did not touch the ID. -/
theorem TakenEach.after_same {s u t : State} {i : AlarmId} {bs : List Bool} (h : SameReading s u i)
    (k : TakenEach u t i bs) : TakenEach s t i bs := by
  cases bs with
  | nil => exact h.untaken.trans k
  | cons b bs =>
    obtain ⟨w, now, definition, forced, taken, later⟩ := k
    exact ⟨w, now.trans h.now, definition.trans h.definition, forced.trans h.untaken.forced, h.taken taken, later⟩

/-- Evaluations before what does not touch the ID. -/
theorem TakenEach.then_untaken {s t u : State} {i : AlarmId} {bs : List Bool} (h : TakenEach s t i bs)
    (k : Untaken t u i) : TakenEach s u i bs := by
  induction bs generalizing s with
  | nil => exact Untaken.trans h k
  | cons b bs ih =>
    obtain ⟨w, now, definition, forced, taken, later⟩ := h
    exact ⟨w, now, definition, forced, taken, ih later⟩

/-! ### One outcome taken (R8, R9) -/

/-- The port after an outcome: counted, and a GOOD frame offered to the receive queue. -/
def LinkPort.took (p : Port) (x : LinkPort) (o : RxOutcome) : LinkPort :=
  let y := { x with counters := countOutcome o x.counters, consecBad := consecAfter o x.consecBad }
  match o with
  | .good f => if x.rxQueue.length < rxCapacity p then { y with rxQueue := x.rxQueue ++ [f] }
    else { y with counters := { y.counters with overrun := bump y.counters.overrun } }
  | _ => y

/-- An outcome taken out of RUN: the port, the frame-error condition evaluated, and nothing else. -/
structure Took (s t : State) (p : Port) (o : RxOutcome) : Prop where
  only  : t = (s.setPort p ((s.port p).took p o)).setAlarm t.alarm
  frame : AlarmFrame [idFrameErrors p] s t
  mode  : t.mode = s.mode
  kept  : (t.status (idFrameErrors p)).forced = (s.status (idFrameErrors p)).forced
  taken : Taken s t (idFrameErrors p) (decide (s.frameErrorThreshold ≤ (consecAfter o (s.port p).consecBad).toNat))

/-- The port with an outcome counted, before a GOOD frame is offered. -/
abbrev LinkPort.counts (x : LinkPort) (o : RxOutcome) : LinkPort :=
  { x with counters := countOutcome o x.counters, consecBad := consecAfter o x.consecBad }

theorem State.takeOutcome_eq {s : State} (out : s.mode ≠ .run) (p : Port) (o : RxOutcome) :
    s.takeOutcome p o = (s.setPort p ((s.port p).took p o)).setAlarm
      ((s.setPort p ((s.port p).counts o)).evaluate0 (idFrameErrors p)
        (decide (s.frameErrorThreshold ≤ (consecAfter o (s.port p).consecBad).toNat))).alarm := by
  have port : (s.setPort p ((s.port p).counts o)).port p = (s.port p).counts o := by cases p <;> rfl
  have threshold : (s.setPort p ((s.port p).counts o)).frameErrorThreshold = s.frameErrorThreshold := by cases p <;> rfl
  have mode : (s.setPort p ((s.port p).counts o)).mode = s.mode := by cases p <;> rfl
  have evaluated := (State.evaluate_of_not_run (s := s.setPort p ((s.port p).counts o)) (by rw [mode]; exact out)
    (idFrameErrors p) (decide (s.frameErrorThreshold ≤ (consecAfter o (s.port p).consecBad).toNat))).1
  rw [State.evaluate0_frame] at evaluated
  simp only [State.takeOutcome, threshold, port, evaluated]
  generalize (State.evaluate0 _ _ _).alarm = alarm
  cases o with
  | good f =>
    simp only [State.enqueueRx, LinkPort.took]
    cases p <;> split <;> rename_i room
    · exact congrArg (fun x => (s.setPort .u x).setAlarm alarm) (if_pos room).symm
    · exact congrArg (fun x => (s.setPort .u x).setAlarm alarm) (if_neg room).symm
    · exact congrArg (fun x => (s.setPort .d x).setAlarm alarm) (if_pos room).symm
    · exact congrArg (fun x => (s.setPort .d x).setAlarm alarm) (if_neg room).symm
  | _ => cases p <;> rfl

theorem State.takeOutcome_took {s : State} (out : s.mode ≠ .run) (p : Port) (o : RxOutcome) :
    Took s (s.takeOutcome p o) p o := by
  have own : OwnEffect s (s.setPort p ((s.port p).counts o)) := .setPort fun h => by subst h; rfl
  have made := State.takeOutcome_eq out p o
  have not_brake : idFrameErrors p ≠ idBrakeSlip := by cases p <;> decide
  generalize h : decide (s.frameErrorThreshold ≤ (consecAfter o (s.port p).consecBad).toNat) = b at made
  have evaluated := State.evaluate_of_not_run (s := s.setPort p ((s.port p).counts o)) (by rw [own.mode]; exact out)
    (idFrameErrors p) b
  have effect := own.evaluated (idFrameErrors p) b
  have taken := own.taken (State.evaluate_taken _ not_brake b)
  have kept := State.evaluate0_kept_forced (s.setPort p ((s.port p).counts o)) (idFrameErrors p) b
  rw [evaluated.1] at effect taken
  have alarm : (s.takeOutcome p o).alarm = ((s.setPort p ((s.port p).counts o)).evaluate0 (idFrameErrors p) b).alarm := by
    rw [made]
    cases p <;> rfl
  have sent : ((s.setPort p ((s.port p).counts o)).evaluate0 (idFrameErrors p) b).links.u.txQueue
      <+: (s.takeOutcome p o).links.u.txQueue := by
    rw [made, State.evaluate0_frame]
    cases p
    · cases o with
      | good f =>
        simp only [LinkPort.took]
        split <;> exact List.prefix_rfl
      | _ => exact List.prefix_rfl
    · exact List.prefix_rfl
  refine ⟨made.trans (by rw [alarm]), effect.alarms.then_same alarm sent, ?_, ?_, h ▸ taken.then_own alarm⟩
  · exact (congrArg AlarmUnit.mode alarm).trans ((evaluated.1 ▸ evaluated.2).trans own.mode)
  · exact (congrArg (fun a => (a.status[idFrameErrors p]).forced) alarm).trans (kept.trans (by rw [own.status]))

/-! ### The held outcomes taken in order (R21) -/

theorem AlarmFrame.mono_of_mode {ids ids' : List AlarmId} {s t : State} (h : AlarmFrame ids s t) (mode : t.mode = s.mode)
    (sub : ∀ i ∈ ids, i ∈ ids') : AlarmFrame ids' s t := by
  have out {i} (hi : untouchedId ids' s t i) : untouchedId ids s t i := ⟨fun mem => hi.1 (sub i mem), hi.2⟩
  exact ⟨fun i hi => h.status i (out hi), fun i hi => h.report i (out hi), fun i hi => h.entry i (out hi), h.owed, h.cause,
    .inl mode⟩

/-- Where the mode stands an ID may be evaluated twice. -/
theorem AlarmFrame.trans_of_mode {ids : List AlarmId} {s t u : State} (h : AlarmFrame ids s t) (k : AlarmFrame ids t u)
    (mode : t.mode = s.mode) (mode' : u.mode = t.mode) (sent : s.links.u.txQueue <+: t.links.u.txQueue)
    (sent' : t.links.u.txQueue <+: u.links.u.txQueue) : AlarmFrame ids s u := by
  have first {i} (hi : untouchedId ids s u i) : untouchedId ids s t i := ⟨hi.1, fun _ => mode⟩
  have second {i} (hi : untouchedId ids s u i) : untouchedId ids t u i := ⟨hi.1, fun _ => mode'⟩
  refine ⟨fun i hi => ?_, fun i hi pending => h.report i (first hi) (k.report i (second hi) pending), fun i hi => ?_,
    fun i pending => (h.owed i pending).trans (k.owed i) sent sent', k.cause.trans h.cause, .inl (mode'.trans mode)⟩
  · have one : Untaken s t i := ⟨h.status i (first hi), h.entry i (first hi)⟩
    exact (one.trans ⟨k.status i (second hi), k.entry i (second hi)⟩).1
  · exact (k.entry i (second hi)).trans (h.entry i (first hi))

/-- The outcomes of a port among those held. -/
def outcomesOf (p : Port) (held : List (Port × RxOutcome)) : List RxOutcome :=
  held.filterMap fun x => if x.1 = p then some x.2 else none

theorem outcomesOf_same (p : Port) (o : RxOutcome) (held : List (Port × RxOutcome)) :
    outcomesOf p ((p, o) :: held) = o :: outcomesOf p held := by simp [outcomesOf]

theorem outcomesOf_other {p q : Port} (h : q ≠ p) (o : RxOutcome) (held : List (Port × RxOutcome)) :
    outcomesOf p ((q, o) :: held) = outcomesOf p held := by simp [outcomesOf, h]

/-- The consecutive-bad counts after each of the outcomes. -/
def badCounts (os : List RxOutcome) (n : Byte) : List Byte := (os.scanl (fun n o => consecAfter o n) n).tail

theorem badCounts_cons (o : RxOutcome) (os : List RxOutcome) (n : Byte) :
    badCounts (o :: os) n = consecAfter o n :: badCounts os (consecAfter o n) := by
  have head (m : Byte) : os.scanl (fun n o => consecAfter o n) m = m :: badCounts os m := by
    rw [badCounts]
    cases os <;> simp
  rw [badCounts, List.scanl_cons, List.tail_cons, head]

theorem LinkPort.took_consecBad (p : Port) (x : LinkPort) (o : RxOutcome) :
    (x.took p o).consecBad = consecAfter o x.consecBad := by
  cases o with
  | good f => simp only [LinkPort.took]; split <;> rfl
  | _ => rfl

theorem LinkPort.took_rest (p : Port) (x : LinkPort) (o : RxOutcome) :
    (x.took p o).rx = x.rx ∧ (x.took p o).tx = x.tx ∧ (x.took p o).txQueue = x.txQueue := by
  cases o with
  | good f => simp only [LinkPort.took]; split <;> exact ⟨rfl, rfl, rfl⟩
  | _ => exact ⟨rfl, rfl, rfl⟩

/-- All the held outcomes taken, out of RUN. -/
structure TookAll (held : List (Port × RxOutcome)) (s t : State) : Prop where
  only  : t = (s.setLinks t.links).setAlarm t.alarm
  links : t.links = { s.links with u := t.links.u, d := t.links.d }
  port  : ∀ p, t.port p = (outcomesOf p held).foldl (LinkPort.took p) (s.port p)
  sent  : t.links.u.txQueue = s.links.u.txQueue
  frame : AlarmFrame [idFrameErrors .u, idFrameErrors .d] s t
  mode  : t.mode = s.mode
  each  : ∀ p, TakenEach s t (idFrameErrors p)
    ((badCounts (outcomesOf p held) (s.port p).consecBad).map fun n => decide (s.frameErrorThreshold ≤ n.toNat))

theorem State.takeHeld_tookAll {s : State} (out : s.mode ≠ .run) (held : List (Port × RxOutcome)) :
    TookAll held s (held.foldl (fun s o => s.takeOutcome o.1 o.2) s) := by
  induction held generalizing s with
  | nil => exact ⟨rfl, rfl, fun _ => rfl, rfl, (Acted.refl s).frame.mono_of_mode rfl (by simp), rfl, fun p => Untaken.refl _ _⟩
  | cons x held ih =>
    obtain ⟨p, o⟩ := x
    have first := State.takeOutcome_took out p o
    obtain ⟨only, links, port, sent, frame, mode, each⟩ := ih (s := s.takeOutcome p o) (by rw [first.mode]; exact out)
    have same_port : (s.takeOutcome p o).port p = (s.port p).took p o := by
      rw [first.only]
      cases p <;> rfl
    have other_port {q : Port} (h : p ≠ q) : (s.takeOutcome p o).port q = s.port q := by
      rw [first.only]
      cases p <;> cases q
      · exact absurd rfl h
      · rfl
      · rfl
      · exact absurd rfl h
    have shape : s.takeOutcome p o = (s.setLinks (s.takeOutcome p o).links).setAlarm (s.takeOutcome p o).alarm := by
      rw [first.only]
      cases p <;> rfl
    have shape_links : (s.takeOutcome p o).links
        = { s.links with u := (s.takeOutcome p o).links.u, d := (s.takeOutcome p o).links.d } := by
      rw [first.only]
      cases p <;> rfl
    have first_sent : (s.takeOutcome p o).links.u.txQueue = s.links.u.txQueue := by
      rw [first.only]
      cases p
      · exact (LinkPort.took_rest .u _ _).2.2
      · rfl
    have reading {i : AlarmId} (h : Untaken s (s.takeOutcome p o) i) : SameReading s (s.takeOutcome p o) i :=
      ⟨h, by rw [shape]; rfl, by rw [shape]; rfl⟩
    have threshold : (s.takeOutcome p o).frameErrorThreshold = s.frameErrorThreshold := by rw [shape]; rfl
    refine ⟨by rw [List.foldl_cons, only, shape]; rfl, by rw [List.foldl_cons, links, shape_links], fun q => ?_,
      sent.trans first_sent, ?_, mode.trans first.mode, fun q => ?_⟩
    · rw [List.foldl_cons, port q]
      by_cases same : p = q
      · subst same
        rw [outcomesOf_same, List.foldl_cons, same_port]
      · rw [outcomesOf_other same, other_port same]
    · refine (first.frame.mono_of_mode first.mode ?_).trans_of_mode frame first.mode mode (by rw [first_sent])
        (by rw [← sent]; exact List.prefix_rfl)
      cases p <;> decide
    · have later := each q
      rw [threshold] at later
      by_cases same : p = q
      · subst same
        rw [same_port, LinkPort.took_consecBad] at later
        rw [outcomesOf_same, badCounts_cons, List.map_cons]
        exact ⟨_, by rw [shape]; rfl, by rw [shape]; rfl, first.kept, first.taken, later⟩
      · rw [other_port same] at later
        rw [outcomesOf_other same]
        refine later.after_same (reading ?_)
        have ne : idFrameErrors q ∉ [idFrameErrors p] := by
          cases p <;> cases q
          · exact absurd rfl same
          · decide
          · decide
          · exact absurd rfl same
        exact ⟨first.frame.status _ ⟨ne, fun _ => first.mode⟩, first.frame.entry _ ⟨ne, fun _ => first.mode⟩⟩

/-! ### The counters and the receive queue after all of them (R8, R9) -/

/-- The frame of a GOOD outcome. -/
def RxOutcome.frame? : RxOutcome → Option Frame
  | .good f => some f
  | _ => none

/-- The port after the outcomes, counter by counter. -/
theorem LinkPort.tookAll (p : Port) (x : LinkPort) (os : List RxOutcome) :
    os.foldl (LinkPort.took p) x =
      { x with
        consecBad := os.foldl (fun n o => consecAfter o n) x.consecBad
        rxQueue := x.rxQueue ++ (os.filterMap RxOutcome.frame?).take (rxCapacity p - x.rxQueue.length)
        counters := { x.counters with
          good := bump^[(os.filterMap RxOutcome.frame?).length] x.counters.good
          badCheck := bump^[(os.filter (· ∈ [RxOutcome.badCheck])).length] x.counters.badCheck
          badLength := bump^[(os.filter (· ∈ [RxOutcome.badLength, .misformed])).length] x.counters.badLength
          truncated := bump^[(os.filter (· ∈ [RxOutcome.truncated])).length] x.counters.truncated
          overrun := bump^[(os.filterMap RxOutcome.frame?).length - (rxCapacity p - x.rxQueue.length)] x.counters.overrun } } := by
  induction os generalizing x with
  | nil => simp
  | cons o os ih =>
    rw [List.foldl_cons, ih]
    cases o with
    | good f =>
      by_cases room : x.rxQueue.length < rxCapacity p
      · have took : x.took p (.good f) = { x with
            counters := { x.counters with good := bump x.counters.good }, consecBad := 0, rxQueue := x.rxQueue ++ [f] } :=
          if_pos room
        obtain ⟨k, free⟩ : ∃ k, rxCapacity p - x.rxQueue.length = k + 1 := ⟨rxCapacity p - x.rxQueue.length - 1, by omega⟩
        have left : rxCapacity p - (x.rxQueue.length + 1) = k := by omega
        rw [took]
        simp [RxOutcome.frame?, consecAfter, free, left]
      · have took : x.took p (.good f) = { x with
            counters := { x.counters with good := bump x.counters.good, overrun := bump x.counters.overrun }
            consecBad := 0 } := if_neg room
        have full : rxCapacity p - x.rxQueue.length = 0 := by omega
        rw [took]
        simp [RxOutcome.frame?, consecAfter, full]
    | _ => simp [LinkPort.took, RxOutcome.frame?, countOutcome, consecAfter, List.filterMap_cons]

/-! ### Outcomes reached while the restart is in effect (R21) -/

/-- The outcome held, the receiver HUNTING. -/
theorem State.endFrame_held {s : State} {k : Bool} (phase : s.phase = .restarting k) (p : Port) (o : RxOutcome) :
    s.endFrame p o = (s.setPort p { s.port p with rx := .hunting }).setLinks
      { (s.setPort p { s.port p with rx := .hunting }).links with held := s.links.held ++ [(p, o)] } := by
  rw [State.endFrame, if_neg (by rw [phase]; exact nofun), State.setPort_held]

/-! ### RESTART_END (R178) -/

/-- The part at the end of the commanded restart, before the held outcomes are taken. -/
def State.restarted (s : State) : State :=
  let v : State := { s with
    phase := .working
    links := { s.links with watchdog := .running s.now, held := [] }
    alarm := { s.alarm with resetCause := .commanded }
    mgmt := { s.mgmt with unit := .free } }
  if s.pageValid .config then v.mapTakesEffect else v

/-- The map apart, what CONFIG decides. -/
theorem State.restarted_eq (s : State) : s.restarted = { s with
    phase := .working
    links := { s.links with watchdog := .running s.now, held := [] }
    image := s.restarted.image
    alarm := { s.alarm with resetCause := .commanded }
    mgmt := { s.mgmt with unit := .free } } := by
  rw [State.restarted]
  split <;> rfl

theorem State.restarted_now (s : State) : s.restarted.now = s.now := by
  rw [State.restarted]
  split <;> rfl

theorem restartEnd_eq {s : State} (clk : s.clk = true) (phase : s.phase = .restarting true) :
    restartEnd s = (s.links.held.foldl (fun s o => s.takeOutcome o.1 o.2) s.restarted).settle :=
  if_pos ⟨clk, phase⟩

/-- What the arbiter can change of a port. -/
theorem State.settle_port (s : State) (p : Port) :
    s.settle.port p = { s.port p with txQueue := (s.settle.port p).txQueue } := by
  have frame := (State.settle_frame s).1
  generalize s.settle = t at frame ⊢
  rw [frame]
  cases p <;> rfl

theorem State.restarted_reads (s : State) :
    Reads { s with alarm := { s.alarm with resetCause := .commanded } } s.restarted := by
  rw [State.restarted_eq]
  exact ⟨rfl, s.restarted_now, fun _ => rfl, List.prefix_rfl⟩

/-- The part at work after the restart, `u` being the state in which the held outcomes have been taken. -/
structure RestartEnds (s t : State) : Prop where
  only     : t = { s with
    phase := .working, pins := t.pins, links := t.links, image := s.restarted.image, alarm := t.alarm
    mgmt := { s.mgmt with unit := .free } }
  links    : t.links = { s.links with watchdog := .running s.now, held := [], u := t.links.u, d := t.links.d }
  mode     : t.mode = s.mode
  cause    : t.alarm.resetCause = .commanded
  frame    : AlarmFrame [idFrameErrors .u, idFrameErrors .d] { s with alarm := { s.alarm with resetCause := .commanded } } t
  sent     : s.links.u.txQueue <+: t.links.u.txQueue
  down     : t.links.d.txQueue = s.links.d.txQueue
  port     : ∀ p, t.port p = { (outcomesOf p s.links.held).foldl (LinkPort.took p) (s.port p) with
    txQueue := (t.port p).txQueue }
  each     : ∀ p, TakenEach s t (idFrameErrors p)
    ((badCounts (outcomesOf p s.links.held) (s.port p).consecBad).map fun n => decide (s.frameErrorThreshold ≤ n.toNat))

theorem restartEnd_ends {s : State} (clk : s.clk = true) (phase : s.phase = .restarting true) (out : s.mode ≠ .run) :
    RestartEnds s (restartEnd s) := by
  have restarted := s.restarted_eq
  have mode_r : s.restarted.mode = s.mode := by rw [restarted]; rfl
  have port_r (p : Port) : s.restarted.port p = s.port p := by rw [restarted]; cases p <;> rfl
  have threshold : s.restarted.frameErrorThreshold = s.frameErrorThreshold := by rw [restarted]; rfl
  obtain ⟨only, links, port, sent, frame, mode, each⟩ :=
    State.takeHeld_tookAll (by rw [mode_r]; exact out) s.links.held
  rw [restartEnd_eq clk phase]
  generalize s.links.held.foldl (fun s o => s.takeOutcome o.1 o.2) s.restarted = u at only links port sent frame mode each ⊢
  have settled := State.settle_effect u
  have arbiter := (State.settle_frame u).1
  have ports := State.settle_port u
  have mode_u := State.settle_mode u
  have unit_u : u.mgmt.unit = .free := by rw [only, restarted]; rfl
  have unit : u.settle.mgmt.unit = .free := by
    obtain same | ⟨words, restart, waits, -⟩ := settled.unit
    · rw [same, unit_u]
    · rw [unit_u] at waits; cases waits
  generalize u.settle = t at settled arbiter ports mode_u unit ⊢
  have sent_s : u.links.u.txQueue = s.links.u.txQueue := by rw [sent, restarted]
  have sent_r : s.restarted.links.u.txQueue = u.links.u.txQueue := sent.symm
  obtain ⟨l, a, made⟩ : ∃ l a, u = (s.restarted.setLinks l).setAlarm a := ⟨_, _, only⟩
  obtain ⟨pins, queue, status, unit', made'⟩ : ∃ pins queue status unit, t =
      { s.restarted with
        pins := pins, links := { l with u := { l.u with txQueue := queue } }, alarm := { a with status := status }
        mgmt := { s.restarted.mgmt with unit := unit } } := ⟨_, _, _, _, arbiter.trans (by rw [made]; rfl)⟩
  have free : unit' = .free := by rw [made'] at unit; exact unit
  have links_s : l = { s.links with watchdog := .running s.now, held := [], u := l.u, d := l.d } := by
    rw [made, restarted] at links
    exact links
  exact {
    only := by
      rw [made', free, restarted]
    links := by
      rw [made', links_s]
    mode := mode_u.trans (mode.trans mode_r)
    cause := by
      rw [settled.alarms.cause, frame.cause, restarted]
    frame := (s.restarted_reads.alarmFrame frame).then_quiet settled.alarms mode_u (by rw [sent_s])
      settled.sent
    sent := sent_s ▸ settled.sent
    down := by
      have at_d := congrArg LinkPort.txQueue (port .d)
      rw [LinkPort.tookAll, port_r] at at_d
      rw [made', ← show u.links.d = l.d by rw [made]; rfl]
      exact at_d
    port := fun p => by rw [ports p, port p, port_r]
    each := fun p => by
      have each_p := (each p).then_untaken (settled.alarms.untaken mode_u _)
      rw [port_r, threshold] at each_p
      refine each_p.after_same ⟨⟨?_, ?_⟩, s.restarted_now, ?_⟩ <;> rw [restarted] <;> rfl }

end Sys2Proof.Machine

open Sys2Proof Sys2Proof.Machine

/-- Settles O29: the restart's effect by definition, and the held outcomes by induction on them
(`State.takeHeld_tookAll`). -/
theorem commandedRestart : Obligations.CommandedRestart := by
  refine ⟨fun sent s working sends restarts => ?effect, fun k p got bytes s clk phase rx => ?held, fun s clk phase mode => ?ends⟩
  case effect =>
    have made : exec (.transmitComplete .u) s = .next s.restartTakesEffect := by
      refine congrArg Host.Outcome.next ?_
      have tx : (s.port .u).tx = some sent := sends
      rw [transmitComplete, State.atWork_of_working working]
      simp only [tx, if_pos restarts]
    refine ⟨_, made, rfl, rfl, rfl, rfl, rfl, fun p => ?_, rfl, rfl, rfl, fun a => ?_, fun id => ?_, rfl, rfl, rfl, rfl, rfl, rfl, rfl,
      rfl, rfl, rfl, rfl, rfl, rfl, rfl, rfl, rfl, rfl, rfl, rfl, rfl, rfl, fun i => ?_, rfl, rfl⟩
    · cases p <;> rfl
    · cases a <;> rfl
    · cases id <;> rfl
    · exact Vector.getElem_replicate ..
  case held =>
    intro holds
    have receives : s.receiving = true := State.receiving_of clk (.inr ⟨k, phase⟩)
    have held (o : RxOutcome) : s.endFrame p o = holds o := State.endFrame_held phase p o
    refine ⟨fun f short all => ?_, fun l len at2 long => ?_, fun ns silence still => ?_⟩
    · have taken : got ++ bytes = f.bytes.drop 1 := by rw [← all]; rfl
      have outcome : outcomeOf p f = if f.checkOk = false then .badCheck
          else if p = .u ∧ f.kind = 0x31 ∧ f.words.length ≠ 6 then .misformed else .good f := by
        rw [outcomeOf]
        cases f.checkOk <;> rfl
      refine congrArg Host.Outcome.next ?_
      rw [← outcome, ← held]
      simp only [frameComplete, rx, taken, receives, Frame.endsComplete_bytes short, Frame.frameOfBytes_bytes short,
        Bool.and_self, if_true]
    · have ends : endsBadLength (got ++ bytes) = true := by
        have length : lengthByte (got ++ bytes) = some l.toNat := congrArg (Option.map BitVec.toNat) at2
        have exceeds : (fun n => decide (Config.maxLength < n)) l.toNat = true := decide_eq_true long
        rw [endsBadLength, len, length]
        exact exceeds
      refine congrArg Host.Outcome.next ?_
      rw [← held]
      simp only [badLength, rx, receives, ends, Bool.and_self, if_true]
    · have longer : Config.silenceLimitNs < ns := silence
      refine congrArg Host.Outcome.next ?_
      rw [← held]
      simp only [truncated, rx, receives, (stillOpen_iff _).mpr still, decide_eq_true longer, Bool.and_self, if_true]
  case ends =>
    intro of goods room bad counted
    have goods_eq (p : Port) : goods p = (outcomesOf p s.links.held).filterMap RxOutcome.frame? :=
      congrArg (fun g => (outcomesOf p s.links.held).filterMap g) (funext fun o => by cases o <;> rfl)
    have bad_eq : bad = fun n o => consecAfter o n := funext fun n => funext fun o => by cases o <;> rfl
    have room_eq (p : Port) : room p = rxCapacity p - (s.port p).rxQueue.length := by cases p <;> rfl
    obtain ⟨only, links, mode_t, cause, frame, sent, down, port, each⟩ := restartEnd_ends clk phase (by rw [mode]; decide)
    refine ⟨restartEnd s, rfl, ?_⟩
    generalize restartEnd s = t at only links mode_t cause frame sent down port each
    refine ⟨by rw [only], by rw [only]; exact clk, by rw [only], by rw [only], cause, by rw [links], by rw [links],
      by rw [links], by rw [links], by rw [only], by rw [only], by rw [only], ?_, mode_t.trans mode, by rw [only],
      fun invalid => ?_, fun valid a => ?_, frame, down, sent, fun p => ?_⟩
    · rw [only]
      exact s.restarted_now
    · rw [only, State.restarted, if_neg (by rw [invalid]; decide)]
    · rw [only, State.axis, State.restarted, if_pos valid]
      cases a <;> rfl
    · have ports := port p
      rw [LinkPort.tookAll] at ports
      have each_p := each p
      rw [badCounts, ← bad_eq] at each_p
      refine ⟨?_, ?_, ?_, ?_, ?_, each_p⟩ <;> rw [ports]
      · rw [goods_eq, room_eq]
      · rw [bad_eq]
        rfl
      · rw [goods_eq, room_eq]
        rfl

end

section
/-! PROOFS. The end of a validation and the structure checks (R37 to R41, R47 to R50, R59). -/

namespace Sys2Proof.Machine

/-! ### What a reply leaves (R180) -/

section
variable {words : List Word} {v t : State} (h : Replies words v t)
include h

theorem Replies.store : t.store = v.store := (congrArg State.store (h.own v) :)
theorem Replies.image : t.image = v.image := (congrArg State.image (h.own v) :)
theorem Replies.gov : t.gov = v.gov := (congrArg State.gov (h.own v) :)
theorem Replies.down : t.links.d = v.links.d := (congrArg (fun x : State => x.links.d) (h.own v) :)
theorem Replies.page (id : PageId) : t.page id = v.page id := by rw [State.page, State.page, h.store]

end

/-! ### A page's change of state and the scan (R59) -/

theorem State.mem_covered {s : State} {id : PageId} :
    id ∈ s.covered ↔ id = .config ∨ id = .alarm ∨ id = .walk ∨ id = s.activePage := by simp [State.covered]

/-- The users of a page leave the scan alone. -/
theorem State.setPageState_scan (s : State) (id : PageId) (st : PageState) :
    (s.setPageState id st).store.scan = (s.pageStored id st).store.scan
      ∧ (s.setPageState id st).store.scanDue = (s.pageStored id st).store.scanDue := by
  obtain ⟨-, -, e⟩ | ⟨-, -, e⟩ | ⟨-, e⟩ := s.setPageState_cases id st
  · rw [e, State.pageLost_frame]
    exact ⟨rfl, rfl⟩
  · rw [e, State.pageGained_frame]
    exact ⟨rfl, rfl⟩
  · rw [e]
    exact ⟨rfl, rfl⟩

/-- From `v`, which has the scan and the pages' states of `s`. -/
theorem ScanFollows.of_setPageState {s v t : State} {id : PageId} {st : PageState}
    (old : (v.page id).state = (s.page id).state) (active : v.store.active = s.store.active)
    (scan : v.store.scan = s.store.scan) (due : v.store.scanDue = s.store.scanDue)
    (store : t.store = (v.setPageState id st).store) : ScanFollows s t id := by
  have covered : id ∈ v.covered ↔ id = .config ∨ id = .alarm ∨ id = .walk ∨ id = s.activePage := by
    rw [State.mem_covered, State.activePage, active]
    rfl
  have new : (t.page id).state = st := by
    have page := congrArg (Store.page · id) store
    have stored := v.setPageState_page id st
    rw [State.page] at stored ⊢
    rw [page, stored]
  obtain ⟨same_scan, same_due⟩ := v.setPageState_scan id st
  rw [ScanFollows, store, same_scan, same_due, State.pageStored, new, ← scan, ← due, ← old, ← covered]
  refine ⟨fun cov changed => ?_, fun still => ?_⟩
  · rw [if_pos ⟨fun same => changed same.symm, cov⟩]
    simp [Store.restartPass, passStart, crcInit]
  · rw [if_neg fun h => still.elim (fun out => out h.2) fun same => h.1 same.symm]
    simp

/-! ### VALIDATION_COMPLETE (R47 to R50) -/

section
variable {v : CheckRun} {s : State} {st : PageState} {status : StatusCode} {data : List Word}

theorem validationComplete_eq (working : s.working = true) (unit : s.mgmt.unit = .validating v)
    (done : v.page.size ≤ v.next) (outcome : s.validationOutcome v = (st, status, data)) :
    validationComplete s
      = ((s.setPageState v.page st).busyWith (.replying (replyWords 5 status data) false)).settle := by
  rw [validationComplete, State.atWork_of_working working]
  simp only [unit, if_pos done, outcome]
  rfl

/-- A page that was not VALID loses no user. -/
theorem State.setPageState_of_not_valid {id : PageId} (old : (s.page id).state ≠ .valid) :
    s.setPageState id st = if st = .valid then (s.pageStored id st).pageGained id else s.pageStored id st := by
  obtain ⟨was, -⟩ | ⟨-, new, e⟩ | ⟨iff, e⟩ := s.setPageState_cases id st
  · exact absurd was old
  · rw [e, if_pos new]
  · rw [e, if_neg fun new => old (iff.mpr new)]

/-- What a completed validation leaves, whatever its outcome. -/
structure Validated (v : CheckRun) (s t : State) (st : PageState) (words : List Word) : Prop where
  gov     : t.gov = s.gov
  walk    : t.walk = s.walk
  mode    : t.mode = s.mode
  list    : t.alarm.list = s.alarm.list
  page    : t.page v.page = { s.page v.page with state := st }
  others  : ∀ id, id ≠ v.page → t.page id = s.page id
  follows : ScanFollows s t v.page
  replied : Replied s t words
  image   : t.image = if st = .valid then ((s.pageStored v.page st).pageGained v.page).image else s.image

theorem validationComplete_validated (working : s.working = true) (unit : s.mgmt.unit = .validating v)
    (done : v.page.size ≤ v.next) (old : (s.page v.page).state = .validating)
    (outcome : s.validationOutcome v = (st, status, data)) :
    Validated v s (validationComplete s) st (replyWords 5 status data) := by
  rw [validationComplete_eq working unit done outcome]
  have replies := (s.setPageState v.page st).replies (replyWords 5 status data)
  have replied := replies.replied
  have not_valid : (s.page v.page).state ≠ .valid := by
    rw [old]
    decide
  have shape : s.setPageState v.page st
      = (s.setStore (s.setPageState v.page st).store).setImage (s.setPageState v.page st).image := by
    rw [State.setPageState_of_not_valid not_valid]
    split
    · rw [State.pageGained_frame]
      rfl
    · rfl
  exact {
    gov := replies.gov.trans (by rw [shape]; rfl)
    walk := replies.walk.trans (by rw [shape]; rfl)
    mode := replies.mode.trans (by rw [shape]; rfl)
    list := replies.list.trans (by rw [shape]; rfl)
    page := (replies.page _).trans (s.setPageState_page v.page st)
    others := fun id other => (replies.page id).trans (s.setPageState_page_ne v.page id st other)
    follows := .of_setPageState rfl rfl rfl rfl replies.store
    replied := by
      have station : (s.setPageState v.page st).stationByte = s.stationByte := by
        rw [shape]
        rfl
      rw [Replied, ← station]
      exact replied
    image := by
      rw [replies.image, State.setPageState_of_not_valid not_valid]
      split <;> rfl }

/-- The check word test and the structure checks, one outcome each (R47 to R49). -/
theorem State.validationOutcome_checkFailed (fails : ¬v.reg = Memory.read (s.page v.page).words (v.page.size - 1)) :
    s.validationOutcome v = (.written, .checkFailed, []) := by
  have test : checkWordPasses (s.page v.page).words v.page v.reg = false := beq_eq_false_iff_ne.mpr fails
  simp only [State.validationOutcome, test, Bool.not_false, if_true]

theorem State.validationOutcome_of_passes (passes : v.reg = Memory.read (s.page v.page).words (v.page.size - 1)) :
    s.validationOutcome v = match failingField s.station (s.page v.page).words v.page with
      | some off => (.written, .structureFailed, [wordOfNat off])
      | none => (.valid, .ok, []) := by
  have test : checkWordPasses (s.page v.page).words v.page v.reg = true := beq_iff_eq.mpr passes
  rw [State.validationOutcome, test]
  rfl

end

theorem failingField_of_first {own : Nat} {m : Memory} {id : PageId} {before after : List FieldCheck} {off : Nat}
    (checks : structureChecks own m id = before ++ (off, false) :: after) (passed : ∀ x ∈ before, x.2 = true) :
    failingField own m id = some off := by
  have none : before.find? (fun c => !c.2) = none := List.find?_eq_none.mpr fun x hx => by simp [passed x hx]
  rw [failingField, checks, List.find?_append, none]
  rfl

theorem failingField_of_none {own : Nat} {m : Memory} {id : PageId} (passed : ∀ x ∈ structureChecks own m id, x.2 = true) :
    failingField own m id = none := by
  rw [failingField, List.find?_eq_none.mpr fun x hx => by simp [passed x hx]]
  rfl

/-! ### The structure checks (R37 to R41, R48, R189) -/

section
variable (m : Memory) (k lo hi : Nat)

theorem rangeCheck_word : rangeCheck m ⟨k, .word, lo, hi⟩
    = (k, decide (lo ≤ (Memory.read m k).toNat ∧ (Memory.read m k).toNat ≤ hi)) := by
  rw [Bool.decide_and]
  rfl

theorem tiedCheck_word (cond : Bool) : tiedCheck m ⟨k, .word, lo, hi⟩ cond
    = (k, decide (lo ≤ (Memory.read m k).toNat ∧ (Memory.read m k).toNat ≤ hi) && cond) := by
  rw [Bool.decide_and]
  rfl

theorem hiByte_toNat (w : Word) : (hiByte w).toNat = w.toNat / 256 := by
  have bound := w.isLt
  simp [hiByte, BitVec.toNat_setWidth, Nat.shiftRight_eq_div_pow]
  omega

theorem loByte_toNat (w : Word) : (loByte w).toNat = w.toNat % 256 := by
  simp [loByte, BitVec.toNat_setWidth]

theorem rangeCheck_high : rangeCheck m ⟨k, .high, lo, hi⟩
    = (k, decide (lo ≤ (Memory.read m k).toNat / 256 ∧ (Memory.read m k).toNat / 256 ≤ hi)) := by
  simp [rangeCheck, Field.ok, Field.raw, hiByte_toNat]

theorem rangeCheck_low : rangeCheck m ⟨k, .low, lo, hi⟩
    = (k, decide (lo ≤ (Memory.read m k).toNat % 256 ∧ (Memory.read m k).toNat % 256 ≤ hi)) := by
  simp [rangeCheck, Field.ok, Field.raw, loByte_toNat]

end

/-- CONFIG: the stations, each unlike the part's and those before it (R37, R48). -/
theorem configChecks_eq (own : Nat) (m : Memory) :
    let w := fun k => (Memory.read m k).toNat
    let within := fun (k lo hi : Nat) => (k, decide (lo ≤ w k ∧ w k ≤ hi))
    let tied := fun (k lo hi : Nat) (cond : Bool) => (k, decide (lo ≤ w k ∧ w k ≤ hi) && cond)
    configChecks own m =
      [ tied 0 1 62 (decide (w 0 ≠ own)), tied 1 1 62 (decide (w 1 ≠ own ∧ w 1 ≠ w 0))
        , tied 2 1 62 (decide (w 2 ≠ own ∧ w 2 ≠ w 0 ∧ w 2 ≠ w 1))
        , tied 3 1 62 (decide (w 3 ≠ own ∧ w 3 ≠ w 0 ∧ w 3 ≠ w 1 ∧ w 3 ≠ w 2))
        , within 4 20 2000, within 5 20 2000, within 6 5 200, within 7 1 255, within 8 100 10000, within 9 0 50
        , within 10 0 300 ] := by
  intro w within tied
  simp only [configChecks, cfgStation, tiedCheck_word, Field.raw, List.all_cons, List.all_nil, Bool.and_true,
    List.map_cons, List.map_nil, cfgReferenceTimeout, cfgFeedbackTimeout, cfgCyclePeriod, cfgFrameErrorThreshold,
    cfgOverloadTension, cfgRestRopeSpeed, cfgRestSwingSpeed, rangeCheck_word, Bool.decide_and, List.cons_append,
    List.nil_append, w, within, tied]
  rfl

/-- WALK: the boundaries rise (R39, R48). -/
theorem walkChecks_eq (m : Memory) :
    let w := fun k => (Memory.read m k).toNat
    let within := fun (k lo hi : Nat) => (k, decide (lo ≤ w k ∧ w k ≤ hi))
    let tied := fun (k lo hi : Nat) (cond : Bool) => (k, decide (lo ≤ w k ∧ w k ≤ hi) && cond)
    walkChecks m =
      [ within 0 0 35999, tied 1 0 35999 (decide (w 0 < w 1)), tied 2 0 35999 (decide (w 1 < w 2))
        , tied 3 0 35999 (decide (w 2 < w 3)), tied 4 0 35999 (decide (w 3 < w 4))
        , within 5 0 1000, within 6 0 1000, within 7 0 1000, within 8 0 1000, within 9 100 60000, within 10 100 60000
        , within 11 100 60000, within 12 100 60000, within 13 100 60000
        , (14, decide (1000 ≤ w 14 * 65536 + w 15 ∧ w 14 * 65536 + w 15 ≤ 120000))
        , within 16 10 1000, within 17 0 2000, within 18 0 300, within 19 1 200, within 20 1 1000 ] := by
  intro w within tied
  have prep : rangeCheck m walkPrepTimeout
      = (14, decide (1000 ≤ w 14 * 65536 + w 15) && decide (w 14 * 65536 + w 15 ≤ 120000)) := rfl
  simp only [walkChecks, walkBoundary, walkSpeed, walkPhaseMax, walkRestMax, walkSteerTolerance, walkSlackTension, walkPayOut,
    walkCrawl, walkSlew, prep, tiedCheck_word, rangeCheck_word, Field.raw, Bool.decide_and, List.map_cons, List.map_nil,
    List.cons_append, List.nil_append, within, tied]
  rfl

/-- ALARM: the eight fields of each record (R38). -/
theorem alarmChecks_eq (m : Memory) :
    let w := fun k => (Memory.read m k).toNat
    let within := fun (k lo hi : Nat) => (k, decide (lo ≤ w k ∧ w k ≤ hi))
    alarmChecks m = (List.range 24).flatMap fun i =>
      [ (5 * i, decide (w (5 * i) / 256 ≤ 1)), (5 * i, decide (w (5 * i) % 256 ≤ 1))
        , (5 * i + 1, decide (w (5 * i + 1) / 256 ≤ 1)), (5 * i + 1, decide (w (5 * i + 1) % 256 ≤ 3))
        , (5 * i + 2, decide (1 ≤ w (5 * i + 2) / 256)), (5 * i + 2, true)
        , within (5 * i + 3) 0 15, within (5 * i + 4) 0 256 ] := by
  intro w within
  have ids : List.range 24 = (List.finRange 24).map Fin.val := by decide
  rw [ids, List.flatMap_map, alarmChecks]
  refine List.flatMap_congr fun i _ => ?_
  have high (k : Nat) : w k / 256 ≤ 255 := by
    have bound := (Memory.read m k).isLt
    show (Memory.read m k).toNat / 256 ≤ 255
    omega
  have low (k : Nat) : w k % 256 ≤ 255 := by omega
  simp only [List.map_cons, List.map_nil, almEnable, almMask, almLatch, almSeverity, almQualification, almRearm, almHorn,
    almFactor, rangeCheck_high, rangeCheck_low, rangeCheck_word, Nat.zero_le, true_and, within]
  have qualifies : decide (1 ≤ w (5 * i + 2) / 256 ∧ w (5 * i + 2) / 256 ≤ 255) = decide (1 ≤ w (5 * i + 2) / 256) :=
    decide_eq_decide.mpr (and_iff_left (high _))
  have rearms : decide (w (5 * i + 2) % 256 ≤ 255) = true := decide_eq_true (low _)
  rw [qualifies, rearms]

/-- PROFILE: the header, the nodes in use, the settings, the sectors in use (R40, R41). -/
theorem profileChecks_eq (m : Memory) :
    let w := fun k => (Memory.read m k).toNat
    let within := fun (k lo hi : Nat) => (k, decide (lo ≤ w k ∧ w k ≤ hi))
    profileChecks m =
      [within 0 0 65000, within 1 50 10000, within 2 2 16, within 3 0 65000, within 4 50 10000, within 5 2 16]
      ++ (((List.range 16).filter fun j => decide (j < w 5)).flatMap fun j =>
          ((List.range 16).filter fun i => decide (i < w 2)).flatMap fun i =>
            let k := 6 + 5 * (j * 16 + i)
            [within k 0 1000, within (k + 1) 0 1000, within (k + 2) 0 1000, within (k + 3) 0 1000, within (k + 4) 0 4])
      ++ [ within 1286 0 10000, within 1287 0 10000, within 1288 1 1000, within 1289 1 1000, within 1290 1 1000
          , within 1291 0 200, within 1292 0 1000, within 1293 10 5000, within 1294 0 255, within 1295 0 9000
          , within 1296 100 18000, within 1297 0 1000, within 1298 0 8 ]
      ++ ((List.range 8).filter fun k => decide (k < w 1298)).flatMap fun k =>
          [ within (1299 + 5 * k) 0 35999, within (1300 + 5 * k) 1 35999, within (1301 + 5 * k) 0 2
            , within (1302 + 5 * k) 0 4, within (1303 + 5 * k) 0 1000 ] := by
  intro w within
  simp only [profileChecks, List.map_cons, List.map_nil, proH0, proHstep, proNH, proD0, proDstep, proND, nodeLimit, nodeZone,
    nodeOffset, Limit.index, proHoistTightline, proDragTightline, proHoistSlew, proDragSlew, proSwingSlew, proCreep, proMargin,
    proNominal, proLoad, proGuard, proSlowZone, proSwingLimit, proSectors, sectorStart, sectorWidth, sectorKind, sectorClass,
    sectorSpeed, rangeCheck_word, Field.raw, Nat.add_zero, within]
  rfl

end Sys2Proof.Machine

open Sys2Proof Sys2Proof.Machine

/-- Settles O47: one outcome of a completed validation at a time (`validationComplete_validated`), and the checks page by
page. -/
theorem validationGivesOutcome : Obligations.ValidationGivesOutcome := by
  refine ⟨fun v s working unit done old => ?_, fun own m n => ?_⟩
  · intro m passes checks
    have outcome {st : PageState} {status : StatusCode} {data : List Word} (h : s.validationOutcome v = (st, status, data)) :=
      validationComplete_validated working unit done old h
    obtain ⟨gov, walk, mode, list, -, others, follows, -, -⟩ := outcome (Prod.eta _).symm
    refine ⟨_, rfl, gov, walk, mode, list, others, follows, fun fails => ?_, fun before off after pass first passed => ?_,
      fun pass sound => ?_⟩
    · have validated := outcome (State.validationOutcome_checkFailed fails)
      exact ⟨validated.page, validated.replied, validated.image⟩
    · have made := State.validationOutcome_of_passes pass
      rw [failingField_of_first first passed] at made
      have validated := outcome made
      exact ⟨validated.page, validated.replied, validated.image⟩
    · have made := State.validationOutcome_of_passes pass
      rw [failingField_of_none sound] at made
      obtain ⟨-, -, -, -, page, -, -, replied, image⟩ := outcome made
      rw [if_pos rfl] at image
      refine ⟨page, replied, fun other => ?_, fun config => ?_⟩
      · rw [image]
        cases id : v.page with
        | config => exact absurd id other
        | _ => rfl
      · have words : ((s.pageStored v.page .valid).page .config).words = m := by
          rw [← config, State.pageStored_page]
        have mapped : (validationComplete s).image = ((s.pageStored v.page .valid).mapTakesEffect).image := by
          rw [image, config]
          rfl
        refine ⟨(congrArg Image.timeBase mapped :), fun a => ?_⟩
        rw [State.axis, mapped, ← words]
        cases a <;> rfl
  · exact ⟨configChecks_eq own m, alarmChecks_eq m, walkChecks_eq m, profileChecks_eq m⟩

end

section
/-! PROOFS. WRITE_PAGE and VALIDATE (R43 to R46, R55, R59). -/

namespace Sys2Proof.Machine

/-! ### The gate (R43) -/

section
variable {s : State} {id : PageId}

theorem PageId.isTable_iff : id.isTable = true ↔ id = .config ∨ id = .alarm ∨ id = .walk := by
  cases id <;> simp [PageId.isTable]

theorem State.pageInUse_iff : s.pageInUse id = true
    ↔ id = s.activePage ∨ ∃ n, s.store.pendingProfile = some n ∧ id = .profile n := by
  rw [State.pageInUse, Bool.or_eq_true, decide_eq_true_iff]
  refine or_congr_right ?_
  cases s.store.pendingProfile with
  | none => simp
  | some n =>
    rw [Option.map_some, beq_iff_eq, Option.some_inj]
    exact ⟨fun e => ⟨n, rfl, e.symm⟩, fun ⟨_, same, e⟩ => by cases same; exact e.symm⟩

theorem State.pageGate_wrongMode (run : s.mode = .run) (table : id = .config ∨ id = .alarm ∨ id = .walk) :
    s.pageGate id = some .wrongMode := by
  rw [State.pageGate, if_pos ⟨run, PageId.isTable_iff.mpr table⟩]

theorem State.pageGate_inUse (run : s.mode = .run) (other : ¬(id = .config ∨ id = .alarm ∨ id = .walk))
    (used : id = s.activePage ∨ ∃ n, s.store.pendingProfile = some n ∧ id = .profile n) :
    s.pageGate id = some .pageInUse := by
  rw [State.pageGate, if_neg fun h => other (PageId.isTable_iff.mp h.2), if_pos ⟨run, State.pageInUse_iff.mpr used⟩]

theorem State.pageGate_blocked (out : s.mode ≠ .run) (moving : (id = .config ∨ id = .walk) ∧ s.walk.state ≠ .idle) :
    s.pageGate id = some .blocked := by
  rw [State.pageGate, if_neg fun h => out h.1, if_neg fun h => out h.1, if_pos moving]

theorem State.pageGate_passes (free : ¬(s.mode = .run ∧ ((id = .config ∨ id = .alarm ∨ id = .walk)
      ∨ id = s.activePage ∨ ∃ n, s.store.pendingProfile = some n ∧ id = .profile n)))
    (still : ¬((id = .config ∨ id = .walk) ∧ s.walk.state ≠ .idle)) : s.pageGate id = none := by
  rw [State.pageGate, if_neg fun h => free ⟨h.1, .inl (PageId.isTable_iff.mp h.2)⟩,
    if_neg fun h => free ⟨h.1, .inr (State.pageInUse_iff.mp h.2)⟩, if_neg still]

end

/-! ### What a page's change of state leaves (R50, R55) -/

/-- Out of RUN no change of a page moves the mode; nor does one of a profile. -/
theorem State.setPageState_mode {s : State} {id : PageId} (st : PageState)
    (h : s.mode ≠ .run ∨ ¬(id = .config ∨ id = .alarm ∨ id = .walk)) : (s.setPageState id st).mode = s.mode := by
  obtain out | profile := h
  · refine State.setPageState_keeps (P := fun u => u.mode = s.mode) id st rfl (fun _ _ h => h) (fun _ _ h => h) fun u w same => ?_
    simp only [State.withWalk]
    split
    · exact (State.evaluate_of_not_run (s := u.setWalk w) (by rw [← same] at out; exact out) _ _).2.trans same
    · exact same
  · rw [not_or, not_or] at profile
    obtain ⟨-, -, e⟩ | ⟨-, -, e⟩ | ⟨-, e⟩ := s.setPageState_cases id st
    · rw [e]
      obtain ⟨config, -⟩ | ⟨walk, -⟩ | ⟨e, -⟩ | ⟨n, -, -, e⟩ := (s.pageStored id st).pageLost_cases id
      · exact absurd config profile.1
      · exact absurd walk profile.2.2
      · rw [e]; rfl
      · rw [e]; rfl
    · rw [e, State.pageGained_frame]; rfl
    · rw [e]; rfl

theorem State.setPageState_of_invalid {s : State} {id : PageId} {st : PageState} (old : s.pageValid id = false)
    (new : st ≠ .valid) : s.setPageState id st = s.pageStored id st := by
  have not_valid : (s.page id).state ≠ .valid := of_decide_eq_false old
  rw [State.setPageState_of_not_valid not_valid, if_neg new]

/-- CONFIG ceasing to be VALID ends the map (R26). -/
theorem State.setPageState_unmaps {s : State} {st : PageState} (old : s.pageValid .config = true) (new : st ≠ .valid)
    (a : Axis) : ((s.setPageState .config st).axis a).state = .unmapped := by
  obtain ⟨-, -, e⟩ | ⟨was, -⟩ | ⟨iff, -⟩ := s.setPageState_cases .config st
  · have image : (s.setPageState .config st).image = s.image.unmapAll := by
      rw [e, State.pageLost, State.mapEnds_frame]
      rfl
    rw [State.axis, image]
    cases a <;> rfl
  · exact absurd (of_decide_eq_true old) was
  · exact absurd (iff.mp (of_decide_eq_true old)) new

/-- A pending profile's page ceasing to be VALID cancels the switch (R55). -/
theorem State.setPageState_cancels {s : State} {n : Fin 4} {st : PageState} (old : s.pageValid (.profile n) = true)
    (new : st ≠ .valid) (pending : s.store.pendingProfile = some n) :
    (s.setPageState (.profile n) st).store.pendingProfile = none := by
  obtain ⟨-, -, e⟩ | ⟨was, -⟩ | ⟨iff, -⟩ := s.setPageState_cases (.profile n) st
  · have waits : (s.pageStored (.profile n) st).store.pendingProfile = some n := by rw [State.pageStored_pendingProfile, pending]
    rw [e]
    simp only [State.pageLost, if_pos waits]
    rfl
  · exact absurd (of_decide_eq_true old) was
  · exact absurd (iff.mp (of_decide_eq_true old)) new

/-- What a page's change of state keeps in any case. -/
theorem State.setPageState_rest (s : State) (id : PageId) (st : PageState) :
    (s.setPageState id st).gov = s.gov ∧ (s.setPageState id st).links = s.links ∧ (s.setPageState id st).mgmt = s.mgmt
      ∧ (s.setPageState id st).stationByte = s.stationByte := by
  rw [State.setPageState_frame]
  exact ⟨rfl, rfl, rfl, rfl⟩

/-- What passes the gate moves no mode (R43). -/
theorem State.setPageState_mode_of_gate {s : State} {id : PageId} (st : PageState)
    (free : ¬(s.mode = .run ∧ ((id = .config ∨ id = .alarm ∨ id = .walk)
      ∨ id = s.activePage ∨ ∃ n, s.store.pendingProfile = some n ∧ id = .profile n))) :
    (s.setPageState id st).mode = s.mode := by
  refine State.setPageState_mode st ?_
  by_cases run : s.mode = .run
  · exact .inr fun table => free ⟨run, .inl table⟩
  · exact .inl run

/-! ### The requests taken -/

theorem writePage_answersOnly {s : State} {words data : List Word} {idWord off : Word}
    (h : Serving s 4 (idWord :: off :: data))
    (outcome : ownWritePage (idWord :: off :: data) s.tookRequest = (s.tookRequest, .replying words false)) :
    AnswersOnly .writePage s words :=
  answersOnly_of_exec (congrArg _ (State.serve_owner h (by decide) (decide_eq_true (by simp)) outcome))

theorem validate_answersOnly {s : State} {words : List Word} {idWord : Word} (h : Serving s 5 [idWord])
    (outcome : ownValidate [idWord] s.tookRequest = (s.tookRequest, .replying words false)) :
    AnswersOnly .validate s words :=
  answersOnly_of_exec (congrArg _ (State.serve_owner h (by decide) rfl outcome))

section
variable {s : State} {idWord off : Word} {data : List Word} {id : PageId} {code : StatusCode}

theorem ownWritePage_refused (names : pageOfId idWord.toNat = some id)
    (fits : 1 ≤ data.length ∧ data.length ≤ 56 ∧ off.toNat + data.length ≤ id.size) (gate : s.pageGate id = some code) :
    ownWritePage (idWord :: off :: data) s = (s, answer 4 code []) := by
  have names' : pageOfId ((idWord :: off :: data).getD 0 0).toNat = some id := names
  simp only [ownWritePage, names', gate]
  exact if_pos fits

theorem ownWritePage_accepted (names : pageOfId idWord.toNat = some id)
    (fits : 1 ≤ data.length ∧ data.length ≤ 56 ∧ off.toNat + data.length ≤ id.size) (gate : s.pageGate id = none) :
    ownWritePage (idWord :: off :: data) s = (s.writePage id off.toNat data, answer 4 .ok []) := by
  have names' : pageOfId ((idWord :: off :: data).getD 0 0).toNat = some id := names
  simp only [ownWritePage, names', gate]
  exact if_pos fits

theorem ownWritePage_bad (bad : ∀ id, pageOfId idWord.toNat = some id →
      ¬(1 ≤ data.length ∧ data.length ≤ 56 ∧ off.toNat + data.length ≤ id.size)) :
    ownWritePage (idWord :: off :: data) s = (s, answer 4 .badArgument []) := by
  have first : ((idWord :: off :: data).getD 0 0).toNat = idWord.toNat := rfl
  rw [ownWritePage, first]
  cases names : pageOfId idWord.toNat with
  | none => rfl
  | some id => exact if_neg (bad id names)

theorem ownValidate_refused (names : pageOfId idWord.toNat = some id) (gate : s.pageGate id = some code) :
    ownValidate [idWord] s = (s, answer 5 code []) := by
  have names' : pageOfId (([idWord] : List Word).getD 0 0).toNat = some id := names
  simp only [ownValidate, names', gate]
  rfl

theorem ownValidate_accepted (names : pageOfId idWord.toNat = some id) (gate : s.pageGate id = none) :
    ownValidate [idWord] s = (s.setPageState id .validating, .validating ⟨id, 0, 0xFFFF⟩) := by
  have names' : pageOfId (([idWord] : List Word).getD 0 0).toNat = some id := names
  simp only [ownValidate, names', gate]
  rfl

theorem ownValidate_bad (none : pageOfId idWord.toNat = none) :
    ownValidate [idWord] s = (s, answer 5 .badArgument []) := by
  have names' : pageOfId (([idWord] : List Word).getD 0 0).toNat = .none := none
  simp only [ownValidate, names']
  rfl

end

end Sys2Proof.Machine

open Sys2Proof Sys2Proof.Machine

/-- Settles O49: the gate's cases in order, and the words stored before the page's change of state. -/
theorem writePageStoresWords : Obligations.WritePageStoresWords := by
  intro idWord off data s serving wf
  constructor
  case right => exact fun bad => writePage_answersOnly serving (ownWritePage_bad bad)
  case left =>
    intro id names least most within table used moving
    have fits : 1 ≤ data.length ∧ data.length ≤ 56 ∧ off.toNat + data.length ≤ id.size := ⟨least, most, within⟩
    refine ⟨fun run is_table => ?_, fun run other is_used => ?_, fun out moves => ?_, fun free still => ?_⟩
    · exact writePage_answersOnly serving
        (ownWritePage_refused names fits (State.pageGate_wrongMode (s := s.tookRequest) run is_table))
    · exact writePage_answersOnly serving
        (ownWritePage_refused names fits (State.pageGate_inUse (s := s.tookRequest) run other is_used))
    · exact writePage_answersOnly serving
        (ownWritePage_refused names fits (State.pageGate_blocked (s := s.tookRequest) out moves))
    · have outcome := ownWritePage_accepted names fits (State.pageGate_passes (s := s.tookRequest) free still)
      have made : exec .writePage s = .next
          ((s.tookRequest.writePage id off.toNat data).busyWith (.replying [4, 0] false)).settle :=
        congrArg _ (State.serve_owner serving (by decide) (decide_eq_true (by simp)) outcome)
      rw [State.writePage_eq] at made
      generalize stored : s.tookRequest.wordsStored id off.toNat data = w at made
      have page_w : w.page id = { s.page id with words := Memory.writeFrom (s.page id).words off.toNat data } := by
        rw [← stored]
        exact Store.page_setPage _ _ _
      have others_w (j : PageId) (other : j ≠ id) : w.page j = s.page j := by
        rw [← stored]
        exact Store.page_setPage_ne _ _ other
      have shape : w = s.tookRequest.setStore w.store := by rw [← stored]; rfl
      have kept : w.store.active = s.store.active ∧ w.store.pendingProfile = s.store.pendingProfile
          ∧ w.store.scan = s.store.scan ∧ w.store.scanDue = s.store.scanDue := by
        rw [← stored]
        simp [State.wordsStored, State.tookRequest]
      obtain ⟨active, pending, scan, due⟩ := kept
      have valid_w : w.pageValid id = s.pageValid id := by rw [State.pageValid, State.pageValid, page_w]
      obtain ⟨gov, links, -, station⟩ := w.setPageState_rest id .written
      have mode : (w.setPageState id .written).mode = s.mode := by
        refine (State.setPageState_mode_of_gate .written ?_).trans (by rw [shape]; rfl)
        rw [State.activePage, active, pending, shape]
        exact free
      have replies := (w.setPageState id .written).replies [4, 0]
      refine ⟨_, made, ?_⟩
      generalize ((w.setPageState id .written).busyWith (.replying [4, 0] false)).settle = t at replies
      have page_t : t.page id = { s.page id with
          state := .written, words := Memory.writeFrom (s.page id).words off.toNat data } := by
        rw [replies.page, State.setPageState_page, page_w]
      refine ⟨?_, by rw [page_t], by rw [page_t]; exact Memory.wf_writeFrom (wf id) _ _, fun k => ?_, fun j other => ?_,
        .of_setPageState (by rw [page_w]) active scan due replies.store, fun n profile waits valid => ?_, ?_, replies.mode.trans mode,
        ?_, fun invalid => ?_, fun config valid a => ?_⟩
      · have station_s : (w.setPageState id .written).stationByte = s.stationByte := station.trans (by rw [shape]; rfl)
        rw [Replied, ← station_s]
        exact replies.replied
      · rw [page_t]
        exact Memory.read_writeFrom (wf id) _ _ _
      · rw [replies.page, State.setPageState_page_ne _ _ _ _ other, others_w j other]
      · subst profile
        rw [replies.store]
        exact State.setPageState_cancels (valid_w.trans valid) (by decide) (pending.trans waits)
      · rw [replies.gov, gov, shape]
        rfl
      · rw [replies.down, links, shape]
        rfl
      · have quiet := State.setPageState_of_invalid (st := .written) (valid_w.trans invalid) (by decide)
        refine ⟨?_, ?_, replies.alarms.of_alarm ?_ ?_ (replies.mode.trans mode)⟩
        · rw [replies.image, quiet, shape]; rfl
        · rw [replies.walk, quiet, shape]; rfl
        · rw [quiet, shape]; rfl
        · rw [quiet, shape]; rfl
      · subst config
        rw [State.axis, replies.image]
        exact State.setPageState_unmaps (valid_w.trans valid) (by decide) a

/-- Settles O50: the gate's cases in order, and the run begun before word 0. -/
theorem validateStartsRun : Obligations.ValidateStartsRun := by
  intro idWord s serving
  constructor
  case left => exact fun none => validate_answersOnly serving (ownValidate_bad none)
  case right =>
    intro id names table used moving
    refine ⟨fun run is_table => ?_, fun run other is_used => ?_, fun out moves => ?_, fun free still => ?_⟩
    · exact validate_answersOnly serving
        (ownValidate_refused names (State.pageGate_wrongMode (s := s.tookRequest) run is_table))
    · exact validate_answersOnly serving
        (ownValidate_refused names (State.pageGate_inUse (s := s.tookRequest) run other is_used))
    · exact validate_answersOnly serving
        (ownValidate_refused names (State.pageGate_blocked (s := s.tookRequest) out moves))
    · have outcome := ownValidate_accepted names (State.pageGate_passes (s := s.tookRequest) free still)
      have made : exec .validate s = .next
          ((s.tookRequest.setPageState id .validating).busyWith (.validating ⟨id, 0, 0xFFFF⟩)).settle :=
        congrArg _ (State.serve_owner serving (by decide) rfl outcome)
      obtain ⟨gov, links, mgmt, -⟩ := s.tookRequest.setPageState_rest id .validating
      have mode : (s.tookRequest.setPageState id .validating).mode = s.mode :=
        State.setPageState_mode_of_gate (s := s.tookRequest) .validating free
      refine ⟨_, made, ?_⟩
      have settled := State.settle_effect
        ((s.tookRequest.setPageState id .validating).busyWith (.validating ⟨id, 0, 0xFFFF⟩))
      have mode_t := State.settle_mode
        ((s.tookRequest.setPageState id .validating).busyWith (.validating ⟨id, 0, 0xFFFF⟩))
      have own := settled.own
      have walk_t := State.settle_walk
        ((s.tookRequest.setPageState id .validating).busyWith (.validating ⟨id, 0, 0xFFFF⟩))
      generalize ((s.tookRequest.setPageState id .validating).busyWith (.validating ⟨id, 0, 0xFFFF⟩)).settle = t
        at settled mode_t own walk_t
      have store : t.store = (s.tookRequest.setPageState id .validating).store := (congrArg State.store own :)
      have page (j : PageId) : t.page j = (s.tookRequest.setPageState id .validating).page j := by
        rw [State.page, State.page, store]
      have queue : t.mgmt.queue = (s.tookRequest.setPageState id .validating).mgmt.queue :=
        (congrArg (fun x : State => x.mgmt.queue) own :)
      have gov_t : t.gov = (s.tookRequest.setPageState id .validating).gov := (congrArg State.gov own :)
      have image : t.image = (s.tookRequest.setPageState id .validating).image := (congrArg State.image own :)
      refine ⟨?_, ?_, ?_, fun j other => ?_, .of_setPageState (v := s.tookRequest) rfl rfl rfl rfl store, gov_t.trans gov,
        mode_t.trans mode, fun invalid => ?_⟩
      · obtain same | ⟨words, restart, waits, -⟩ := settled.unit
        · exact same
        · cases waits
      · rw [queue, mgmt]
        rfl
      · rw [page, State.setPageState_page]
        rfl
      · rw [page, State.setPageState_page_ne _ _ _ _ other]
        rfl
      · have quiet := State.setPageState_of_invalid (s := s.tookRequest) (st := .validating) invalid (by decide)
        refine ⟨?_, ?_, settled.alarms.of_alarm ?_ ?_ (mode_t.trans mode)⟩
        · rw [image, quiet]; rfl
        · rw [walk_t, quiet]; rfl
        · rw [quiet]; rfl
        · rw [quiet]; rfl

end

section
/-! PROOFS. SCAN_ADVANCE: the words of the pass that are still to be read (R57). -/

namespace Sys2Proof.Machine

/-! ### The words still to be read -/

/-- The words of a page from word `k` on, none of a page that is not VALID. -/
def State.unread (s : State) (id : PageId) (k : Nat) : List (PageId × Nat) :=
  if s.pageValid id = true then (List.range (id.size - k)).map fun n => (id, k + n) else []

/-- The words of the pages, from word `k` of the first of them on. -/
def State.wordsOf (s : State) : List PageId → Nat → List (PageId × Nat)
  | [], _ => []
  | id :: rest, k => s.unread id k ++ s.wordsOf rest 0

section
variable {s : State} {id : PageId} {k : Nat}

theorem PageId.size_pos (id : PageId) : 0 < id.size := by cases id <;> exact Nat.succ_pos _

theorem State.unread_of_invalid (h : s.pageValid id = false) : s.unread id k = [] := by
  rw [State.unread, h]
  rfl

theorem State.unread_of_valid (h : s.pageValid id = true) :
    s.unread id k = (List.range (id.size - k)).map fun n => (id, k + n) := if_pos h

theorem State.wordsOf_of_invalid {rest : List PageId} (h : s.pageValid id = false) :
    s.wordsOf (id :: rest) k = s.wordsOf rest 0 := by rw [State.wordsOf, State.unread_of_invalid h, List.nil_append]

theorem State.length_unread (h : s.pageValid id = true) : (s.unread id k).length = id.size - k := by
  simp [State.unread_of_valid h]

theorem State.unread_get (h : s.pageValid id = true) {n : Nat} (lt : n < id.size - k) :
    (s.unread id k)[n]? = some (id, k + n) := by simp [State.unread_of_valid h, lt]

/-- The last word of a page is among its words. -/
theorem State.last_mem_unread (h : s.pageValid id = true) (lt : k < id.size) : (id, id.size - 1) ∈ s.unread id k := by
  rw [State.unread_of_valid h, List.mem_map]
  exact ⟨id.size - 1 - k, List.mem_range.mpr (by omega), congrArg (Prod.mk id) (by omega)⟩

theorem State.mem_wordsOf {pages : List PageId} {j : PageId} {n : Nat} (h : (j, n) ∈ s.wordsOf pages k) :
    j ∈ pages ∧ s.pageValid j = true := by
  induction pages generalizing k with
  | nil => cases h
  | cons id rest ih =>
    obtain here | later := List.mem_append.mp h
    · by_cases valid : s.pageValid id = true
      · rw [State.unread_of_valid valid, List.mem_map] at here
        obtain ⟨_, -, same⟩ := here
        cases same
        exact ⟨List.mem_cons_self, valid⟩
      · rw [State.unread_of_invalid (Bool.eq_false_iff.mpr valid)] at here
        cases here
    · obtain ⟨mem, valid⟩ := ih later
      exact ⟨List.mem_cons_of_mem id mem, valid⟩

/-! ### One page of the pass -/

/-- `before j n` is the register before word `n` of page `j`, the pass standing at word `k` of the first of the pages
with the register `reg`. -/
structure RegisterBefore (s : State) (id : PageId) (rest : List PageId) (k : Nat) (reg : Word)
    (before : PageId → Nat → Word) : Prop where
  head : ∀ n, before id n = crcOver (s.page id).words id.size k (n - k) reg
  tail : ∀ j ∈ rest, ∀ n, before j n = crcOver (s.page j).words j.size 0 n crcInit

variable {rest : List PageId} {reg : Word} {before : PageId → Nat → Word} {budget : Nat}

theorem RegisterBefore.next {j : PageId} (h : RegisterBefore s id (j :: rest) k reg before) :
    RegisterBefore s j rest 0 crcInit before :=
  ⟨h.tail j List.mem_cons_self, fun i hi => h.tail i (List.mem_cons_of_mem j hi)⟩

/-- The check word test on the register that has run over the whole page (R47). -/
abbrev State.checkRight (s : State) (before : PageId → Nat → Word) (id : PageId) : Prop :=
  before id id.size = Memory.read (s.page id).words (id.size - 1)

theorem State.scanPages_skip (invalid : s.pageValid id = false) :
    s.scanPages (id :: rest) k reg budget = s.scanPages rest 0 crcInit budget := by
  rw [State.scanPages, invalid]
  rfl

/-- The advance's words end within the page. -/
theorem State.scanPages_pause (h : RegisterBefore s id rest k reg before) (valid : s.pageValid id = true)
    (lt : budget < id.size - k) :
    s.scanPages (id :: rest) k reg budget
      = s.setStore { s.store with scan := some ⟨id, k + budget, before id (k + budget)⟩ } := by
  have least : min budget (id.size - k) = budget := by omega
  have within : k + budget < id.size := by omega
  have register : before id (k + budget) = crcOver (s.page id).words id.size k budget reg := by
    rw [h.head, Nat.add_sub_cancel_left]
  rw [State.scanPages, valid, register]
  simp only [Bool.not_true, Bool.false_eq_true, if_false, least, if_pos within]
  split
  next zero =>
    subst zero
    rfl
  next => rfl

/-- The advance's words reach the page's last. -/
theorem State.scanPages_whole (h : RegisterBefore s id rest k reg before) (valid : s.pageValid id = true)
    (lt : k < id.size) (le : id.size - k ≤ budget) :
    s.scanPages (id :: rest) k reg budget
      = if s.checkRight before id then s.scanPages rest 0 crcInit (budget - (id.size - k)) else s.scanMismatch id := by
  have least : min budget (id.size - k) = id.size - k := by omega
  have some : budget ≠ 0 := by omega
  have whole : ¬k + (id.size - k) < id.size := by omega
  have test : checkWordPasses (s.page id).words id (crcOver (s.page id).words id.size k (id.size - k) reg) = true
      ↔ s.checkRight before id := by
    rw [State.checkRight, h.head, checkWordPasses, beq_iff_eq]
  rw [State.scanPages, valid]
  simp only [Bool.not_true, Bool.false_eq_true, if_false, least, if_neg some, if_neg whole, test]

/-! ### The advance's words -/

/-- Where the first `n` words reach a page's last, what is right of them is right of that page and of the words after it. -/
theorem State.checkRight_head (valid : s.pageValid id = true) (lt : k < id.size) {n : Nat} (le : id.size - k ≤ n)
    (right : ∀ i : PageId, (i, i.size - 1) ∈ (s.wordsOf (id :: rest) k).take n → s.checkRight before i) :
    s.checkRight before id
      ∧ ∀ i : PageId, (i, i.size - 1) ∈ (s.wordsOf rest 0).take (n - (id.size - k)) → s.checkRight before i := by
  have length : (s.unread id k).length = id.size - k := State.length_unread valid
  have split : (s.wordsOf (id :: rest) k).take n = s.unread id k ++ (s.wordsOf rest 0).take (n - (id.size - k)) := by
    rw [State.wordsOf, List.take_append, List.take_of_length_le (by omega), length]
  rw [split] at right
  exact ⟨right id (List.mem_append_left _ (State.last_mem_unread valid lt)), fun i hi => right i (List.mem_append_right _ hi)⟩

/-- The words after those of the page in hand. -/
theorem State.wordsOf_get_after (valid : s.pageValid id = true) {n : Nat} (le : id.size - k ≤ n) :
    (s.wordsOf (id :: rest) k)[n]? = (s.wordsOf rest 0)[n - (id.size - k)]? := by
  have length : (s.unread id k).length = id.size - k := State.length_unread valid
  rw [State.wordsOf, List.getElem?_append_right (by omega), length]

theorem State.wordsOf_get_within (valid : s.pageValid id = true) {n : Nat} (lt : n < id.size - k) :
    (s.wordsOf (id :: rest) k)[n]? = some (id, k + n) := by
  have length : (s.unread id k).length = id.size - k := State.length_unread valid
  rw [State.wordsOf, List.getElem?_append_left (by omega), State.unread_get valid lt]

/-- What the register has run over stands in `before`, whichever page the pass is in; with no page left it does not
matter. -/
def RegisterStands (s : State) (pages : List PageId) (k : Nat) (reg : Word) (before : PageId → Nat → Word) : Prop :=
  ∀ id rest, pages = id :: rest → k < id.size ∧ RegisterBefore s id rest k reg before

theorem RegisterStands.cons (h : RegisterStands s (id :: rest) k reg before) :
    k < id.size ∧ RegisterBefore s id rest k reg before := h id rest rfl

theorem RegisterStands.later (h : RegisterStands s (id :: rest) k reg before) :
    RegisterStands s rest 0 crcInit before := by
  rintro j pages rfl
  exact ⟨j.size_pos, h.cons.2.next⟩

/-- The pass goes on at the first word that the advance does not read. -/
theorem State.scanPages_goes_on {pages : List PageId} {j : PageId} {n : Nat} (h : RegisterStands s pages k reg before)
    (next : (s.wordsOf pages k)[budget]? = some (j, n))
    (right : ∀ i : PageId, (i, i.size - 1) ∈ (s.wordsOf pages k).take budget → s.checkRight before i) :
    s.scanPages pages k reg budget = s.setStore { s.store with scan := some ⟨j, n, before j n⟩ } := by
  induction pages generalizing k reg budget with
  | nil => simp [State.wordsOf] at next
  | cons id rest ih =>
    obtain ⟨lt, stands⟩ := h.cons
    by_cases valid : s.pageValid id = true
    · by_cases within : budget < id.size - k
      · rw [State.wordsOf_get_within valid within] at next
        cases next
        exact State.scanPages_pause stands valid within
      · have le : id.size - k ≤ budget := by omega
        obtain ⟨passes, later⟩ := State.checkRight_head valid lt le right
        rw [State.wordsOf_get_after valid le] at next
        rw [State.scanPages_whole stands valid lt le, if_pos passes]
        exact ih h.later next later
    · have invalid := Bool.eq_false_iff.mpr valid
      rw [State.wordsOf_of_invalid invalid] at next right
      rw [State.scanPages_skip invalid]
      exact ih h.later next right

/-- The pass ends with the last word of the last page to be read. -/
theorem State.scanPages_ends {pages : List PageId} (h : RegisterStands s pages k reg before)
    (all : (s.wordsOf pages k).length ≤ budget)
    (right : ∀ i : PageId, (i, i.size - 1) ∈ (s.wordsOf pages k).take budget → s.checkRight before i) :
    s.scanPages pages k reg budget = s.passEnds := by
  induction pages generalizing k reg budget with
  | nil => rfl
  | cons id rest ih =>
    obtain ⟨lt, stands⟩ := h.cons
    by_cases valid : s.pageValid id = true
    · rw [State.wordsOf, List.length_append, State.length_unread valid] at all
      have le : id.size - k ≤ budget := by omega
      obtain ⟨passes, later⟩ := State.checkRight_head valid lt le right
      rw [State.scanPages_whole stands valid lt le, if_pos passes]
      exact ih h.later (by omega) later
    · have invalid := Bool.eq_false_iff.mpr valid
      rw [State.wordsOf_of_invalid invalid] at all right
      rw [State.scanPages_skip invalid]
      exact ih h.later all right

/-- The first page whose check is wrong ends the advance. -/
theorem State.scanPages_fails {pages : List PageId} {j : PageId} {n : Nat} (h : RegisterStands s pages k reg before)
    (last : (s.wordsOf pages k)[n]? = some (j, j.size - 1)) (within : n < budget)
    (right : ∀ i : PageId, (i, i.size - 1) ∈ (s.wordsOf pages k).take n → s.checkRight before i)
    (wrong : ¬s.checkRight before j) : s.scanPages pages k reg budget = s.scanMismatch j := by
  induction pages generalizing k reg budget n with
  | nil => simp [State.wordsOf] at last
  | cons id rest ih =>
    obtain ⟨lt, stands⟩ := h.cons
    by_cases valid : s.pageValid id = true
    · by_cases here : n < id.size - k
      · rw [State.wordsOf_get_within valid here, Option.some_inj, Prod.mk.injEq] at last
        obtain ⟨rfl, ends⟩ := last
        rw [State.scanPages_whole stands valid lt (by omega), if_neg wrong]
      · have le : id.size - k ≤ n := by omega
        obtain ⟨passes, later⟩ := State.checkRight_head valid lt le right
        rw [State.wordsOf_get_after valid le] at last
        rw [State.scanPages_whole stands valid lt (by omega), if_pos passes]
        exact ih h.later last (by omega) later
    · have invalid := Bool.eq_false_iff.mpr valid
      rw [State.wordsOf_of_invalid invalid] at last right
      rw [State.scanPages_skip invalid]
      exact ih h.later last within right

end

end Sys2Proof.Machine

end

section
/-! PROOFS. SCAN_ADVANCE: the pass goes on, ends or fails a page (R57, R58, R137, R138). -/

namespace Sys2Proof.Machine

/-! ### The advance taken -/

/-- The pages still to be read after the one in hand (R57). -/
def State.laterPages (s : State) : PageId → List PageId
  | .config => [.alarm, .walk, s.activePage]
  | .alarm => [.walk, s.activePage]
  | .walk => [s.activePage]
  | .profile _ => []

/-- The register before a word, the page in hand taken up at word `next` with the register `reg`. -/
def State.registerBefore (s : State) (id : PageId) (next : Nat) (reg : Word) (j : PageId) (k : Nat) : Word :=
  if j = id then crcOver (s.page j).words j.size next (k - next) reg else crcOver (s.page j).words j.size 0 k 0xFFFF

section
variable {s : State} {id : PageId} {next : Nat} {reg : Word}

theorem State.pagesFrom_eq (covered : id = .config ∨ id = .alarm ∨ id = .walk ∨ id = s.activePage) :
    s.pagesFrom id = id :: s.laterPages id := by
  obtain rfl | rfl | rfl | rfl := covered <;> simp [State.pagesFrom, State.covered, State.laterPages, State.activePage]

theorem State.not_mem_laterPages (s : State) (id : PageId) : id ∉ s.laterPages id := by
  cases id <;> simp [State.laterPages, State.activePage]

theorem State.mem_covered_of_laterPages {j : PageId} (h : j ∈ s.laterPages id) : j ∈ s.covered := by
  rw [State.covered]
  cases id with
  | config => exact List.mem_cons_of_mem _ h
  | alarm => exact List.mem_cons_of_mem _ (List.mem_cons_of_mem _ h)
  | walk => exact List.mem_cons_of_mem _ (List.mem_cons_of_mem _ (List.mem_cons_of_mem _ h))
  | profile n => cases h

/-- The words that the advance finds still to be read. -/
theorem State.wordsOf_pagesFrom (s : State) (id : PageId) (next : Nat) :
    s.wordsOf (id :: s.laterPages id) next
      = s.unread id next ++ (s.laterPages id).flatMap fun j => s.unread j 0 := by
  cases id <;> rfl

theorem State.registerBefore_stands (lt : next < id.size) :
    RegisterStands s (id :: s.laterPages id) next reg (s.registerBefore id next reg) := by
  rintro _ _ ⟨⟩
  refine ⟨lt, fun n => if_pos rfl, fun j hj n => if_neg ?_⟩
  rintro rfl
  exact s.not_mem_laterPages j hj

/-- The state in which the scan has taken the advance that was due. -/
def State.scanTaken (s : State) : State := s.setStore { s.store with scanDue := false }

theorem scanAdvance_eq (working : s.working = true) (loaded : s.mode ≠ .loading) (due : s.store.scanDue = true)
    (scan : s.store.scan = some ⟨id, next, reg⟩)
    (covered : id = .config ∨ id = .alarm ∨ id = .walk ∨ id = s.activePage) :
    exec .scanAdvance s = .next (s.scanTaken.scanPages (id :: s.laterPages id) next reg 64).settle := by
  have taken : scanAdvance s = (s.scanTaken.scanPages (s.scanTaken.pagesFrom id) next reg 64).settle := by
    rw [scanAdvance, State.atWork_of_working working]
    simp only [State.scanTaken, scan]
    have comes : s.store.scanDue = true ∧ s.mode ≠ .loading := ⟨due, loaded⟩
    exact if_pos comes
  rw [State.pagesFrom_eq (s := s.scanTaken) covered] at taken
  exact congrArg Host.Outcome.next taken

end

/-! ### The pass goes on, or ends -/

/-- A change of the scan alone. -/
theorem Leads.setScan (s : State) (scan : Option CheckRun) (due : Bool) :
    Leads s (s.setStore { s.store with scan := scan, scanDue := due }) :=
  ⟨⟨rfl, rfl, fun _ => rfl, List.prefix_rfl⟩, rfl, rfl⟩

theorem Effect.of_leads {ids : List AlarmId} {s v t : State} (h : Leads s v) (own : v.withAlarmsOf s = v)
    (k : Effect ids v t v) : Effect ids s t v := by
  have after := h.effect k
  have same : t.withAlarmsOf s = v := calc
    t.withAlarmsOf s = (t.withAlarmsOf v).withAlarmsOf s := rfl
    _ = v := by rw [k.own, own]
  rwa [same] at after

theorem State.covered_any_failed (s : State) :
    (s.covered.any fun id => decide ((s.page id).state = .failed)) = true
      ↔ ∃ j : PageId, (s.page j).state = .failed ∧ (j = .config ∨ j = .alarm ∨ j = .walk ∨ j = s.activePage) := by
  simp only [List.any_eq_true, decide_eq_true_eq, State.mem_covered, and_comm]

/-! ### Evaluations beside a Walk Sequencer at rest -/

section
variable {s : State} (idle : s.walk.state = .idle) (empty : s.walk.queue = [])
include idle empty

/-- Then HALT entry changes nothing and evaluates nothing. -/
theorem State.haltEntry_of_rest : s.haltEntry = s := by
  have session : s.walk.session = false := WalkSeq.session_eq_false.mpr ⟨idle, empty⟩
  simp only [State.haltEntry, WalkSeq.haltEntry_rest idle empty, session, Bool.false_and, Bool.false_eq_true, if_false]
  rfl

theorem State.evaluate_of_rest (i : AlarmId) (b : Bool) : s.evaluate i b = s.evaluate0 i b := by
  obtain ⟨-, e⟩ | ⟨-, -, e⟩ := State.evaluate_cases s i b
  · exact e
  · have same : (s.evaluate0 i b).walk = s.walk := by rw [State.evaluate0_frame]; rfl
    rw [e]
    exact State.haltEntry_of_rest (by rw [same]; exact idle) (by rw [same]; exact empty)

/-- Each ID is then evaluated as it is, SWING_BRAKE_SLIP too, and no other is touched. -/
theorem State.evaluate_taken_of_rest (i : AlarmId) (b : Bool) : Taken s (s.evaluate i b) i b := by
  rw [State.evaluate_of_rest idle empty]
  exact State.evaluate0_taken s i b

theorem State.evaluate_untaken_of_rest {i j : AlarmId} (b : Bool) (ne : j ≠ i) : Untaken s (s.evaluate i b) j := by
  have others := State.evaluate0_others s i b
  rw [State.evaluate_of_rest idle empty]
  exact ⟨by rw [others.status j ne], others.entry j ne⟩

end

/-! ### A page fails (R50, R58, R137, R138) -/

/-- From `s` to `v` the Table Store and the records may change, and no more. -/
structure Beside (s v : State) : Prop where
  alarm : v.alarm = s.alarm
  walk  : v.walk = s.walk
  now   : v.now = s.now
  links : v.links = s.links

/-- The walk axis is lost with the page, as CONFIG's map or by the WALK page itself. -/
def State.losesWalk (s : State) (id : PageId) : Prop :=
  id = .walk ∨ id = .config ∧ s.image.walk.state = .fresh ∧ (s.walk.state = .step ∨ s.walk.state = .setdown)

/-- A covered page that fails loses the walk axis, or changes nothing of the Alarm Unit and the Walk Sequencer. -/
theorem State.setPageState_failed_cases {s : State} {id : PageId} (valid : s.pageValid id = true) :
    (¬s.losesWalk id ∧ Beside s (s.setPageState id .failed))
    ∨ (s.losesWalk id ∧ ∃ v, Beside s v ∧ (∀ i, v.definition i = s.definition i)
        ∧ s.setPageState id .failed = v.withWalk (s.walk.lost s.now)) := by
  have fails : s.setPageState id .failed = (s.pageStored id .failed).pageLost id := by
    obtain ⟨-, -, e⟩ | ⟨was, -⟩ | ⟨iff, -⟩ := s.setPageState_cases id .failed
    · exact e
    · exact absurd (of_decide_eq_true valid) was
    · exact absurd (iff.mp (of_decide_eq_true valid)) (by decide)
  have definition (other : id ≠ .alarm) (i : AlarmId) : (s.pageStored id .failed).definition i = s.definition i := by
    unfold State.definition State.pageValid
    rw [State.pageStored_page_ne s .failed other.symm]
  rw [fails]
  cases id with
  | walk => exact .inr ⟨.inl rfl, s.pageStored .walk .failed, ⟨rfl, rfl, rfl, rfl⟩, definition nofun, rfl⟩
  | alarm => exact .inl ⟨by simp [State.losesWalk], rfl, rfl, rfl, rfl⟩
  | profile n =>
    refine .inl ⟨by simp [State.losesWalk], ?_⟩
    simp only [State.pageLost]
    split <;> exact ⟨rfl, rfl, rfl, rfl⟩
  | config =>
    have fresh : (s.axis .walk).isFresh = true ↔ s.image.walk.state = .fresh := decide_eq_true_iff
    let v : State := (s.pageStored .config .failed).setImage s.image.unmapAll
    have ends : (s.pageStored .config .failed).pageLost .config
        = if (s.axis .walk).isFresh then v.walkAxisLost else v := rfl
    rw [ends]
    by_cases lost : s.image.walk.state = .fresh
    · rw [if_pos (fresh.mpr lost)]
      by_cases moving : s.walk.state = .step ∨ s.walk.state = .setdown
      · exact .inr ⟨.inr ⟨rfl, lost, moving⟩, v, ⟨rfl, rfl, rfl, rfl⟩, definition nofun,
          State.walkAxisLost_of_moving (s := v) moving⟩
      · rw [State.walkAxisLost_of_still (s := v) moving]
        exact .inl ⟨by simp [State.losesWalk, moving], rfl, rfl, rfl, rfl⟩
    · rw [if_neg (mt fresh.mp lost)]
      exact .inl ⟨by simp [State.losesWalk, lost], rfl, rfl, rfl, rfl⟩

/-- Evaluations of other IDs than SWING_BRAKE_SLIP frame the Alarm Unit also where a definition has changed: what they
raised stands in the list. -/
theorem Acted.alarmFrame_beside {ids : List AlarmId} {s v t : State} (k : Acted ids v t) (h : Beside s v)
    (brake : idBrakeSlip ∉ ids) : AlarmFrame ids s t := by
  have same_status (i : AlarmId) : v.status i = s.status i := congrArg (·.status[i]) h.alarm
  have same_entry (i : AlarmId) : v.entry? i = s.entry? i :=
    congrArg (·.list.find? fun e => decide (e.id = i)) h.alarm
  have same_mode : v.mode = s.mode := congrArg AlarmUnit.mode h.alarm
  obtain ⟨-, ⟨status, report, entry, owed, cause, -⟩, halts⟩ := k
  simp only [untouchedId, Reported, same_status, same_entry, same_mode, h.alarm, h.links]
    at status report entry owed cause halts
  refine ⟨status, report, entry, owed, cause, halts.imp_right fun ⟨run, halt, i, mem, before, raised, joined⟩ => ?_⟩
  rw [same_entry] at before
  rw [same_status, h.now] at raised
  have stands := joined.resolve_right fun slip => brake (slip.1 ▸ mem)
  exact ⟨run, halt, i, .inl mem, before, raised, .inl stands⟩

/-- TABLE_CORRUPT's definition is the built-in one but for its horn (R144). -/
theorem State.definition_tableCorrupt (s : State) :
    ∃ horn, s.definition idTableCorrupt = { builtinDef idTableCorrupt with horn := horn } := by
  rw [State.definition]
  split
  · exact ⟨_, if_pos rfl⟩
  · exact ⟨_, rfl⟩

theorem bump_pos (c : Byte) : 1 ≤ (bump c).toNat := by
  rw [bump]
  split
  · next full => subst full; decide
  · next room =>
    have below : c ≠ 255#8 := room
    bv_omega

/-- Its first present evaluation raises a STOP entry (R151). -/
theorem TakenPresent.tableCorrupt_raised {s t : State} (h : TakenPresent s t idTableCorrupt)
    (none : s.entry? idTableCorrupt = none) : (t.entry? idTableCorrupt).isSome = true ∧ t.mode ≠ .run := by
  obtain ⟨horn, definition⟩ := s.definition_tableCorrupt
  have raises : raisesNow s idTableCorrupt := by
    simp only [raisesNow, countAfter, definition]
    exact ⟨bump_pos _, rfl, rfl, none, .inl rfl⟩
  obtain ⟨joined, -, -, stop⟩ := h.raised raises
  exact ⟨by rw [joined]; rfl, stop (by rw [definition]; rfl)⟩

end Sys2Proof.Machine

end

section
/-! PROOFS. SCAN_ADVANCE settled (R57, R58). -/

namespace Sys2Proof.Machine

/-- The IDs named are no more than a bound. -/
theorem AlarmFrame.mono {ids ids' : List AlarmId} {s t : State} (h : AlarmFrame ids s t) (sub : ∀ i ∈ ids, i ∈ ids') :
    AlarmFrame ids' s t := by
  have out {i} (hi : untouchedId ids' s t i) : untouchedId ids s t i := ⟨fun mem => hi.1 (sub i mem), hi.2⟩
  exact {
    status := fun i hi => h.status i (out hi)
    report := fun i hi => h.report i (out hi)
    entry := fun i hi => h.entry i (out hi)
    owed := h.owed
    cause := h.cause
    mode := h.mode.imp_right fun ⟨run, halt, i, hi, raised⟩ => ⟨run, halt, i, hi.imp_left (sub i), raised⟩ }

/-- What a mismatch in a page leaves of the Alarm Unit and the Walk Sequencer. -/
structure Mismatched (s t : State) (id : PageId) : Prop where
  frame  : AlarmFrame [idTableCorrupt, idBrakeSlip] s t
  corrupt : (t.status idTableCorrupt).condition = true
  taken  : id ≠ .alarm → Taken s t idTableCorrupt true
  raised : s.entry? idTableCorrupt = none → (t.entry? idTableCorrupt).isSome = true ∧ t.mode ≠ .run
  lost   : s.losesWalk id → t.walk = s.walk.lost s.now ∧ (s.walk.session = true → Taken s t idBrakeSlip false)
  kept   : ¬s.losesWalk id → WalkFollows s t

theorem Beside.entry? {s v : State} (h : Beside s v) (i : AlarmId) : v.entry? i = s.entry? i :=
  congrArg (·.list.find? fun e => decide (e.id = i)) h.alarm

theorem Beside.mode {s v : State} (h : Beside s v) : v.mode = s.mode := congrArg AlarmUnit.mode h.alarm

theorem Beside.reads {s v : State} (h : Beside s v) (definition : ∀ i, v.definition i = s.definition i) : Reads s v :=
  ⟨h.alarm, h.now, definition, by rw [h.links]⟩

/-- The walk axis is not lost: TABLE_CORRUPT alone is evaluated. -/
theorem Mismatched.of_kept {s v : State} {id : PageId} (kept : ¬s.losesWalk id) (beside : Beside s v)
    (definition : id ≠ .alarm → ∀ i, v.definition i = s.definition i) :
    Mismatched s (v.evaluate idTableCorrupt true) id := by
  have evaluated := v.evaluate_evaluated idTableCorrupt true
  have taken : TakenPresent v (v.evaluate idTableCorrupt true) idTableCorrupt :=
    State.evaluate_taken v (i := idTableCorrupt) (by decide) true
  have walk := evaluated.walk
  rw [WalkFollows, beside.mode, beside.walk, beside.now] at walk
  exact {
    frame := (evaluated.alarmFrame_beside beside (by decide)).mono (by decide)
    corrupt := taken.condition
    taken := fun other => (beside.reads (definition other)).taken (b := true) taken
    raised := fun none => taken.tableCorrupt_raised ((beside.entry? _).trans none)
    lost := fun lost => absurd lost kept
    kept := fun _ => walk }

/-- The walk axis is lost: the step ends first, and a session with it; a Walk Sequencer at rest takes what the evaluation
of TABLE_CORRUPT brings about as it is. -/
theorem Mismatched.of_lost {s v : State} {id : PageId} (lost : s.losesWalk id) (beside : Beside s v)
    (definition : ∀ i, v.definition i = s.definition i) (agrees : stepAgrees s.walk.state s.walk.current) :
    Mismatched s ((v.withWalk (s.walk.lost s.now)).evaluate idTableCorrupt true) id := by
  have idle : (s.walk.lost s.now).state = .idle := WalkSeq.lost_idle agrees s.now
  have ended : (s.walk.lost s.now).session = false := WalkSeq.session_eq_false.mpr ⟨idle, rfl⟩
  let w : State := v.setWalk (s.walk.lost s.now)
  have reads : Reads s w := by
    obtain ⟨alarm, now, defined, sent⟩ := beside.reads definition
    exact ⟨alarm, now, defined, sent⟩
  let u : State := v.withWalk (s.walk.lost s.now)
  have walk_u : u.walk = s.walk.lost s.now := State.withWalk_walk_rest idle rfl
  have idle_u : u.walk.state = .idle := by rw [walk_u]; exact idle
  have empty_u : u.walk.queue = [] := by rw [walk_u]; rfl
  have first : Evaluated [idBrakeSlip] w u := v.withWalk_evaluated (s.walk.lost s.now)
  have second := u.evaluate_evaluated idTableCorrupt true
  have taken := u.evaluate_taken_of_rest idle_u empty_u idTableCorrupt true
  have reading := first.sameReading (i := idTableCorrupt) (by decide) fun slip => absurd slip (by decide)
  have taken_s : Taken s (u.evaluate idTableCorrupt true) idTableCorrupt true := reads.taken (reading.taken taken)
  have corrupt : TakenPresent s (u.evaluate idTableCorrupt true) idTableCorrupt := taken_s
  have slips (session : s.walk.session = true) : Taken s (u.evaluate idTableCorrupt true) idBrakeSlip false := by
    have ends : u = w.evaluate idBrakeSlip false := by
      show v.withWalk _ = _
      simp only [State.withWalk, beside.walk, session, ended, Bool.not_false, Bool.and_self, if_true]
      rfl
    have slip : Taken w u idBrakeSlip false := by
      rw [ends]
      exact w.evaluate_taken_of_rest idle rfl idBrakeSlip false
    exact reads.taken (slip.then_untaken (u.evaluate_untaken_of_rest idle_u empty_u true (by decide)) second.stays_halted)
  exact {
    frame := reads.alarmFrame ((first.trans second (by decide)).mono (by decide)).frame
    corrupt := corrupt.condition
    taken := fun _ => taken_s
    raised := corrupt.tableCorrupt_raised
    lost := fun _ => ⟨(State.evaluate_walk_rest idle_u empty_u _ _).trans walk_u, slips⟩
    kept := fun kept => absurd lost kept }

theorem State.scanMismatch_mismatched {s : State} {id : PageId} (valid : s.pageValid id = true)
    (agrees : stepAgrees s.walk.state s.walk.current) : Mismatched s (s.scanMismatch id) id := by
  have definition (other : id ≠ .alarm) (i : AlarmId) : (s.setPageState id .failed).definition i = s.definition i := by
    unfold State.definition State.pageValid
    rw [State.setPageState_page_ne s id _ .failed other.symm]
  rw [State.scanMismatch]
  obtain ⟨kept, beside⟩ | ⟨lost, v, beside, defined, e⟩ := State.setPageState_failed_cases valid
  · exact .of_kept kept beside definition
  · rw [e]
    exact .of_lost lost beside defined agrees

theorem Mismatched.settle {s t : State} {id : PageId} (h : Mismatched s t id) (queue : t.links = s.links) :
    Mismatched s t.settle id := by
  have settled := State.settle_effect t
  have untaken := settled.alarms.untaken (State.settle_mode t) idTableCorrupt
  obtain ⟨frame, corrupt, taken, raised, lost, kept⟩ := h
  obtain ⟨status, entry⟩ := untaken
  exact {
    frame := frame.then_quiet settled.alarms (State.settle_mode t) (by rw [queue]) settled.sent
    corrupt := by rw [← status] at corrupt; exact corrupt
    taken := fun other => (taken other).settle
    raised := fun none => by rw [entry, State.settle_mode]; exact raised none
    lost := fun is_lost => (lost is_lost).imp (State.settle_walk t).trans fun slips session => (slips session).settle
    kept := fun is_kept => by
      have walk := kept is_kept
      rwa [WalkFollows, ← State.settle_walk t, ← State.settle_mode t] at walk }

/-- The records stand but where CONFIG fails. -/
theorem State.setPageState_failed_image {s : State} {id : PageId} (valid : s.pageValid id = true) (other : id ≠ .config) :
    (s.setPageState id .failed).image = s.image := by
  obtain ⟨-, -, e⟩ | ⟨was, -⟩ | ⟨-, e⟩ := s.setPageState_cases id .failed
  · rw [e]
    obtain ⟨config, -⟩ | ⟨-, e⟩ | ⟨e, -⟩ | ⟨n, -, -, e⟩ := (s.pageStored id .failed).pageLost_cases id
    · exact absurd config other
    · rw [e, State.walkPageLost, State.withWalk_image]; rfl
    · rw [e]; rfl
    · rw [e]; rfl
  · exact absurd (of_decide_eq_true valid) was
  · rw [e]; rfl

end Sys2Proof.Machine

open Sys2Proof Sys2Proof.Machine

/-- Settles O48: the words of the advance are read page by page (`State.scanPages_goes_on`, `State.scanPages_ends`,
`State.scanPages_fails`), and a mismatch is taken apart by what the page's failing loses (`Mismatched`). -/
theorem scanFindsCorruption : Obligations.ScanFindsCorruption := by
  intro id next reg s working loaded due scan lt covered later unread words before right allRight
  have made := scanAdvance_eq working loaded due scan covered
  have stands : RegisterStands s.scanTaken (id :: s.laterPages id) next reg before :=
    State.registerBefore_stands (s := s.scanTaken) lt
  have words_eq : words = s.scanTaken.wordsOf (id :: s.laterPages id) next := by
    rw [show s.laterPages id = s.scanTaken.laterPages id from rfl, State.wordsOf_pagesFrom]
    cases id <;> rfl
  constructor
  case left =>
    intro j k goes all
    rw [words_eq] at goes
    have all' : ∀ i : PageId, (i, i.size - 1) ∈ (s.scanTaken.wordsOf (id :: s.laterPages id) next).take 64 →
        s.scanTaken.checkRight before i := words_eq ▸ all
    rw [State.scanPages_goes_on stands goes all'] at made
    refine ⟨_, made, ?_⟩
    exact .of_leads (Leads.setScan s _ _) rfl (State.settle_effect _)
  case right =>
    constructor
    case left =>
      intro all within u failed
      have all' : ∀ i : PageId, (i, i.size - 1) ∈ (s.scanTaken.wordsOf (id :: s.laterPages id) next).take 64 →
          s.scanTaken.checkRight before i := words_eq ▸ all
      have ends : s.scanTaken.passEnds
          = if (s.covered.any fun j => decide ((s.page j).state = .failed)) then u else u.evaluate idTableCorrupt false := rfl
      rw [State.scanPages_ends stands (words_eq ▸ within) all', ends] at made
      have leads : Leads s u := Leads.setScan s _ _
      refine ⟨_, made, fun is_failed => ?_, fun none_failed => ?_⟩
      · rw [if_pos (s.covered_any_failed.mpr is_failed)]
        exact .of_leads leads rfl (State.settle_effect u)
      · rw [if_neg (mt s.covered_any_failed.mp none_failed)]
        exact ⟨.of_leads leads rfl (State.evaluate_effect u _ _).settle,
          (leads.taken (State.evaluate_taken u (i := idTableCorrupt) (by decide) false)).settle⟩
    case right =>
      intro j read rest split fits passed wrong agrees faulted axisLost
      have last : (s.scanTaken.wordsOf (id :: s.laterPages id) next)[read.length]? = some (j, j.size - 1) := by
        rw [← words_eq, split]
        simp
      have passed' : ∀ i : PageId, (i, i.size - 1) ∈ (s.scanTaken.wordsOf (id :: s.laterPages id) next).take read.length →
          s.scanTaken.checkRight before i := by
        rw [← words_eq, split, List.take_left]
        exact passed
      obtain ⟨mem, valid⟩ := State.mem_wordsOf (List.mem_of_getElem? last)
      have is_covered : j = .config ∨ j = .alarm ∨ j = .walk ∨ j = s.activePage := by
        obtain rfl | later := List.mem_cons.mp mem
        · exact covered
        · exact State.mem_covered.mp (State.mem_covered_of_laterPages later)
      rw [State.scanPages_fails stands last fits passed' wrong] at made
      have leads : Leads s s.scanTaken := Leads.setScan s s.store.scan false
      obtain ⟨gov_p, links_p, -, -⟩ := s.scanTaken.setPageState_rest j .failed
      have links : (s.scanTaken.scanMismatch j).links = s.scanTaken.links :=
        (State.evaluate_links _ _ _).trans links_p
      obtain ⟨frame, corrupt, taken, raised, lost, kept⟩ := (State.scanMismatch_mismatched valid agrees).settle links
      have own := (State.settle_effect (s.scanTaken.scanMismatch j)).own
      refine ⟨_, made, ?_⟩
      generalize (s.scanTaken.scanMismatch j).settle = t at own frame corrupt taken raised lost kept
      have store : t.store = (s.scanTaken.setPageState j .failed).store :=
        (congrArg State.store own :).trans (State.evaluate_store _ _ _)
      have image : t.image = (s.scanTaken.setPageState j .failed).image :=
        (congrArg State.image own :).trans (State.evaluate_image _ _ _)
      have gov : t.gov = s.gov := (congrArg State.gov own :).trans ((State.evaluate_gov _ _ _).trans gov_p)
      have page (i : PageId) : t.page i = (s.scanTaken.setPageState j .failed).page i := by
        rw [State.page, State.page, store]
      have page_j : t.page j = ⟨.failed, (s.page j).words⟩ := by
        rw [page, State.setPageState_page]
        rfl
      have restarts : ScanFollows s.scanTaken t j := .of_setPageState rfl rfl rfl rfl store
      have was : (s.page j).state = .valid := of_decide_eq_true valid
      have changed : (t.page j).state ≠ (s.page j).state := by
        rw [page_j, was]
        exact nofun
      obtain ⟨scan_t, due_t⟩ := restarts.1 is_covered changed
      refine ⟨page_j, fun i other => ?_, ?_, due_t, leads.alarmFrame frame, corrupt, fun other => leads.taken (taken other),
        raised, gov, fun is_walk => ?_, fun is_lost => ?_, fun not_walk not_lost => ?_, fun other => ?_, fun config a => ?_⟩
      · rw [page, State.setPageState_page_ne _ _ _ _ other]
        rfl
      · rw [scan_t]
        show s.store.scan.map _ = _
        rw [scan]
        rfl
      · obtain ⟨walk, slips⟩ := lost (.inl is_walk)
        exact ⟨walk, fun session => leads.taken (slips session)⟩
      · obtain ⟨walk, slips⟩ := lost (.inr is_lost)
        have session : s.walk.session = true := by
          rw [WalkSeq.session_iff]
          obtain ⟨-, -, moving | moving⟩ := is_lost <;> exact .inl (by rw [moving]; decide)
        exact ⟨walk, leads.taken (slips session)⟩
      · exact kept fun is_lost => is_lost.elim not_walk not_lost
      · rw [image]
        exact State.setPageState_failed_image (s := s.scanTaken) valid other
      · subst config
        rw [State.axis, image]
        exact State.setPageState_unmaps (s := s.scanTaken) valid (by decide) a

end
